-- ==== Sys2Proof/Word.lean ====
section
/-! DEFINITION. The two word types of the core: an 8-bit byte and a 16-bit word (R9: registers of 8 bits, pairs, SP and
PC of 16 bits, every bus access one byte). Wrapping arithmetic (`trunc8`, `trunc16` of the spec's notation) is the
arithmetic of these types. -/

namespace Sys2Proof

/-- One 8-bit byte (R9). -/
abbrev Byte := BitVec 8

/-- One 16-bit word: a register pair, SP, PC or a bus address (R9). -/
abbrev Word := BitVec 16

end Sys2Proof
end

