-- ==== Sys2Proof/Machine/Bits.lean ====
section
/-! DEFINITION. Bit fields and byte order (00_scope.md section 5, R84, R147): the halves of a word, the word of two
bytes, sign extension, a bit as a Bool, and bounded repetition. -/

namespace Sys2Proof.Machine

/-- `v[15:8]`. -/
def hiByte (w : Word) : Byte := w.extractLsb' 8 8

/-- `v[7:0]`. -/
def loByte (w : Word) : Byte := w.extractLsb' 0 8

/-- `hi ++ lo`: the first-named byte is the high one. -/
def joinBytes (hi lo : Byte) : Word := hi ++ lo

/-- `sext_16` of a byte (R147). -/
def sext16 (e : Byte) : Word := e.signExtend 16

/-- `v[i]` of a byte. -/
def bitOf (v : Byte) (i : Nat) : Bool := v.getLsbD i

/-- `v[lo+n-1:lo]` of a byte, as an unsigned number. -/
def field (v : Byte) (lo n : Nat) : Nat := v.toNat / 2 ^ lo % 2 ^ n

/-- The spec's `repeat n times` over a state. -/
def repeatN {α : Type} (f : α → α) : Nat → α → α
  | 0, x => x
  | n + 1, x => repeatN f n (f x)

end Sys2Proof.Machine
end

