-- ==== Sys2Proof/Machine/Memory.lean ====
section
/-! DEFINITION. Memory as plain data: a list of (address, byte) cells in one canonical form, for the three stores of
the machine (the bus's backing store, the external RAM, the cartridge image), and what an unlisted address reads as. -/

namespace Sys2Proof.Machine

/-- The byte stores: the backing store of 0x8000..0xFFFF (R34), the external RAM banks (R35; bank `b`, offset `o` is
address `8192 * b + o`) and the cartridge image (R8). -/
inductive Store where
  | bus
  | eram
  | rom
deriving DecidableEq, Repr

/-- The reset bytes of the I/O registers whose reset value is not 0x00 (R48 to R59, R65, R67). BOOT (0xFF50) is listed
with its value without a boot ROM. -/
def ioResetTable : List Host.Cell :=
  [(0xFF10, 0x80), (0xFF11, 0xBF), (0xFF12, 0xF3), (0xFF14, 0xBF),
   (0xFF16, 0x3F), (0xFF19, 0xBF),
   (0xFF1A, 0x7F), (0xFF1B, 0xFF), (0xFF1C, 0x9F), (0xFF1E, 0xBF),
   (0xFF20, 0xFF), (0xFF23, 0xBF),
   (0xFF24, 0x77), (0xFF25, 0xF3), (0xFF26, 0xF1),
   (0xFF40, 0x91), (0xFF47, 0xFC), (0xFF48, 0xFF), (0xFF49, 0xFF),
   (0xFF50, 0x01)]

/-- What an address with no cell reads as: an I/O register its reset value (R42 to R69), every other byte 0x00 (the
constant `RAM_INIT` that R562 allows; a model's choice, notes/assumptions/2.md). -/
def unlisted (st : Store) (a : Nat) : Byte :=
  match st with
  | .bus => (ioResetTable.lookup a).getD 0
  | .eram => 0
  | .rom => 0

/-- The addresses a store has: R34 (0x8000..0xFFFF without the external-RAM window), R35 (at most 4 banks of 8192
bytes), R8 (at most 2097152 bytes). -/
def Store.holds (st : Store) (a : Nat) : Bool :=
  match st with
  | .bus => (decide (0x8000 ≤ a) && decide (a ≤ 0x9FFF)) || (decide (0xC000 ≤ a) && decide (a ≤ 0xFFFF))
  | .eram => decide (a < 32768)
  | .rom => decide (a < 2097152)

/-- A store's contents: the cells that differ from what an unlisted address reads as. -/
abbrev Memory := List Host.Cell

/-- Read one byte. -/
def Memory.read (st : Store) (m : Memory) (a : Nat) : Byte :=
  match m with
  | [] => unlisted st a
  | (b, w) :: rest => if a < b then unlisted st a else if a = b then w else Memory.read st rest a

/-- Write one byte, keeping the cells in order and listing none that holds what an unlisted address reads as. -/
def Memory.write (st : Store) (m : Memory) (a : Nat) (v : Byte) : Memory :=
  match m with
  | [] => if v = unlisted st a then [] else [(a, v)]
  | (b, w) :: rest =>
    if a < b then (if v = unlisted st a then (b, w) :: rest else (a, v) :: (b, w) :: rest)
    else if a = b then (if v = unlisted st a then rest else (a, v) :: rest)
    else (b, w) :: Memory.write st rest a v

/-- Every cell is at or above `lo`, rising, in the store, and not what an unlisted address reads as. -/
def Memory.wfFrom (st : Store) (lo : Nat) (m : Memory) : Bool :=
  match m with
  | [] => true
  | (a, v) :: rest =>
    decide (lo ≤ a) && st.holds a && decide (v ≠ unlisted st a) && Memory.wfFrom st (a + 1) rest

/-- The canonical form: equal contents are equal lists. -/
def Memory.wf (st : Store) (m : Memory) : Bool := Memory.wfFrom st 0 m

end Sys2Proof.Machine
end

