-- ==== Sys2Proof/Config.lean ====
section
/-! DEFINITION. The parameters of the machine (R8): none is state of the spec's and none changes while the machine
runs. They are plain data held beside the state, so that every claim about all states is a claim about all parameters. -/

namespace Sys2Proof.Machine

/-- The cartridge controller (R8). -/
inductive CartKind where
  | noMapper
  | switchable
deriving DecidableEq, Repr

/-- What "the background pixel was non-zero" tests for sprite priority (R8, R477). -/
inductive PriorityTest where
  | colorIndex
  | shade
deriving DecidableEq, Repr

/-- The parameters of R8. `ROM` is `rom` (unlisted bytes 0x00) of length `romSize`; `RAM_INIT` is `ramInit` for the
bytes of the backing store and `eramInit` for the bytes of the external RAM banks (unlisted bytes 0x00). -/
structure Params where
  cartKind     : CartKind
  rom          : Memory
  romSize      : Nat
  ramBanks     : Nat
  bootRom      : Option (Vector Byte 256)
  ramInit      : Memory
  eramInit     : Memory
  sampleRate   : Nat
  priorityTest : PriorityTest
deriving DecidableEq, Repr

/-- The bytes whose content at reset is `RAM_INIT` (R70): VRAM, WRAM and echo, OAM and the unused range, the wave
table, HRAM. -/
def isRamByte (a : Nat) : Bool :=
  (decide (0x8000 ≤ a) && decide (a ≤ 0x9FFF)) || (decide (0xC000 ≤ a) && decide (a ≤ 0xFEFF))
    || (decide (0xFF30 ≤ a) && decide (a ≤ 0xFF3F)) || (decide (0xFF80 ≤ a) && decide (a ≤ 0xFFFE))

/-- The other address of an echo pair (R100), if the address has one. -/
def echoAlias (a : Nat) : Option Nat :=
  if 0xC000 ≤ a ∧ a ≤ 0xDDFF then some (a + 0x2000)
  else if 0xE000 ≤ a ∧ a ≤ 0xFDFF then some (a - 0x2000)
  else none

/-- The constraints of R8 and R562 on the parameters. -/
def Params.wf (p : Params) : Bool :=
  ([32768, 65536, 131072, 262144, 524288, 1048576, 2097152].contains p.romSize)
    && Memory.wf .rom p.rom && p.rom.all (fun c => decide (c.1 < p.romSize))
    && ([0, 1, 4].contains p.ramBanks)
    && Memory.wf .bus p.ramInit && p.ramInit.all (fun c => isRamByte c.1)
    && p.ramInit.all (fun c =>
        match echoAlias c.1 with
        | none => true
        | some b => decide (Memory.read .bus p.ramInit b = c.2))
    && Memory.wf .eram p.eramInit
    && decide (0 < p.sampleRate)

/-- The parameters `State.reset` takes: no mapper, a 32 KiB image of zero bytes, no external RAM, no boot ROM, RAM_INIT
0x00, 44100 samples a second, the default priority test (95_test_vectors.md section 0's start state; a model's choice,
notes/assumptions/1.md; no statement rests on it). -/
def Config.params : Params :=
  { cartKind := .noMapper, rom := [], romSize := 32768, ramBanks := 0, bootRom := none, ramInit := [], eramInit := [],
    sampleRate := 44100, priorityTest := .colorIndex }

/-- `CLOCK_HZ` (R8): ticks of the shared clock per second. -/
def Config.clockHz : Nat := 4194304

end Sys2Proof.Machine
end

