-- ==== Sys2Proof/Machine/State.lean ====
section
/-! DEFINITION. The machine's state as plain data (10_state.md), its state after cold boot (R70, R561), and the reasons
a step can stop. -/

namespace Sys2Proof.Machine

/-- A pixel's shade, 0 the lightest and 3 the darkest (R478). -/
abbrev Shade := BitVec 2

/-- The CPU registers (R21 to R24). F holds Z, N, H, C in bits 7..4. -/
structure Regs where
  a  : Byte
  f  : Byte
  b  : Byte
  c  : Byte
  d  : Byte
  e  : Byte
  h  : Byte
  l  : Byte
  sp : Word
  pc : Word
deriving DecidableEq, Repr

/-- The fatal record (R30, R391): the illegal opcode and how many steps completed before it. -/
structure FatalRecord where
  opcode : Byte
  steps  : Nat
deriving DecidableEq, Repr

/-- The bank-switching controller's registers (R36). `mode` false is 0 (ROM banking), true is 1 (RAM banking). -/
structure Mbc where
  ramEnable : Bool
  bankLo    : BitVec 5
  bankHi    : BitVec 2
  mode      : Bool
deriving DecidableEq, Repr

/-- The PPU's modes (R39). -/
inductive PpuMode where
  | oamScan
  | transfer
  | hblank
  | vblank
deriving DecidableEq, Repr

/-- PPU state (R39). -/
structure Ppu where
  mode        : PpuMode
  budget      : Nat
  last        : Nat
  line        : Nat
  frameReady  : Bool
  framebuffer : Vector (Vector Shade 160) 144
deriving DecidableEq, Repr

/-- What every audio channel has (R40): active, length and frequency timer. -/
structure Voice where
  active  : Bool
  bounded : Bool
  lenLeft : Nat
  timer   : Nat
deriving DecidableEq, Repr

/-- The envelope of channels 1, 2 and 4 (R40, R505). -/
structure Envelope where
  volume : BitVec 4
  up     : Bool
  period : BitVec 3
  left   : Nat
deriving DecidableEq, Repr

/-- A square channel (1 and 2): the waveform position is 0..7. -/
structure Square where
  voice : Voice
  pos   : Fin 8
  env   : Envelope
deriving DecidableEq, Repr

/-- Channel 1's frequency sweep (R40). -/
structure Sweep where
  shadow : BitVec 11
  left   : Nat
deriving DecidableEq, Repr

/-- The wave channel (3): the waveform position is 0..31. -/
structure Wave where
  voice : Voice
  pos   : Fin 32
deriving DecidableEq, Repr

/-- The noise channel (4) with its 15-bit shift register. -/
structure Noise where
  voice : Voice
  env   : Envelope
  lfsr  : BitVec 15
deriving DecidableEq, Repr

/-- APU state (R40, R541). -/
structure Apu where
  ch1         : Square
  sweep       : Sweep
  ch2         : Square
  ch3         : Wave
  ch4         : Noise
  sampleFrac  : Nat
  samplesDone : Nat
deriving DecidableEq, Repr

/-- The host's button states, true when pressed (R41). -/
structure Buttons where
  right  : Bool
  left   : Bool
  up     : Bool
  down   : Bool
  a      : Bool
  b      : Bool
  select : Bool
  start  : Bool
deriving DecidableEq, Repr

/-- Everything the spec gives the machine (10_state.md), and its parameters (R8). -/
structure State where
  /-- R21 to R24 -/
  regs      : Regs
  /-- R26 -/
  ime       : Bool
  /-- R27 -/
  eiDelay   : Nat
  /-- R28 -/
  halted    : Bool
  /-- R29 -/
  stopped   : Bool
  /-- R30 -/
  fatal     : Option FatalRecord
  /-- R31 -/
  steps     : Nat
  /-- R33 -/
  ticks     : Nat
  /-- R32 -/
  divCount  : Nat
  /-- R32 -/
  timaCount : Nat
  /-- R34 -/
  mem       : Memory
  /-- R35 -/
  eram      : Memory
  /-- R36 -/
  mbc       : Mbc
  /-- R39 -/
  ppu       : Ppu
  /-- R40 -/
  apu       : Apu
  /-- R41 -/
  buttons   : Buttons
  /-- R8 -/
  params    : Params
deriving DecidableEq, Repr

/-- Why the machine takes no step. -/
inductive Fault where
  /-- Raised by `step` alone, when the state already holds a fatal record (R71: "If fatal is not none there is no
  step"; R391). Safe: it is the spec's own end of a run, and carries the record. -/
  | fatalStopped (opcode : Byte) (steps : Nat)
deriving DecidableEq, Repr

/-- Why the model gives no meaning. -/
inductive Refusal where
  /-- Raised by `exec` alone, for an instruction with no meaning in the model yet (no arm uses it now). Safe: nothing
  can be proved of an instruction that is refused. -/
  | notModelled (mnemonic : String)
deriving DecidableEq, Repr

/-- What a meaning answers. -/
abbrev Answer := Host.Outcome State Fault Refusal

/-- The CPU registers after cold boot (R70). -/
def Regs.boot (hasBootRom : Bool) : Regs :=
  if hasBootRom then
    { a := 0x00, f := 0x00, b := 0x00, c := 0x00, d := 0x00, e := 0x00, h := 0x00, l := 0x00, sp := 0x0000, pc := 0x0000 }
  else
    { a := 0x01, f := 0xB0, b := 0x00, c := 0x13, d := 0x00, e := 0xD8, h := 0x01, l := 0x4D, sp := 0xFFFE, pc := 0x0100 }

/-- A silent voice: R70 "active 0, all counters 0". -/
def Voice.off : Voice := { active := false, bounded := false, lenLeft := 0, timer := 0 }

/-- An envelope before any trigger (R70 gives its counter 0; the other fields 0 are notes/assumptions/3.md). -/
def Envelope.off : Envelope := { volume := 0, up := false, period := 0, left := 0 }

/-- The APU after cold boot (R70). -/
def Apu.boot : Apu :=
  { ch1 := { voice := .off, pos := 0, env := .off }, sweep := { shadow := 0, left := 0 },
    ch2 := { voice := .off, pos := 0, env := .off }, ch3 := { voice := .off, pos := 0 },
    ch4 := { voice := .off, env := .off, lfsr := 0x7FFF }, sampleFrac := 0, samplesDone := 0 }

/-- The PPU after cold boot (R70). -/
def Ppu.boot : Ppu :=
  { mode := .oamScan, budget := 0, last := 0, line := 0, frameReady := false,
    framebuffer := Vector.replicate 144 (Vector.replicate 160 0) }

/-- The backing store after cold boot (R70): `RAM_INIT` over the I/O reset values, with BOOT 0x00 when there is a boot
ROM. -/
def bootMemory (p : Params) : Memory :=
  let ram := p.ramInit.foldl (fun m c => if isRamByte c.1 then Memory.write .bus m c.1 c.2 else m) []
  Memory.write .bus ram 0xFF50 (if p.bootRom.isSome then 0x00 else 0x01)

/-- Cold boot (R561): every piece of state at the value of R70, with no bus side effect. -/
def State.coldBoot (p : Params) : State :=
  { regs := .boot p.bootRom.isSome, ime := false, eiDelay := 0, halted := false, stopped := false, fatal := none,
    steps := 0, ticks := 0, divCount := 0, timaCount := 0,
    mem := bootMemory p, eram := p.eramInit,
    mbc := { ramEnable := false, bankLo := 1, bankHi := 0, mode := false },
    ppu := .boot, apu := .boot,
    buttons := { right := false, left := false, up := false, down := false, a := false, b := false, select := false,
                 start := false },
    params := p }

/-- The machine right after reset, with the model's default parameters. -/
def State.reset : State := .coldBoot Config.params

end Sys2Proof.Machine
end

