-- ==== Sys2Proof/Machine/Store.lean ====
section
/-! DEFINITION. The backing store seen without bus side effects (R34, R83: "The PPU and APU read mem directly, without
read side effects"), the tick counter (R33) and raising an interrupt source (R396). -/

namespace Sys2Proof.Machine

/-- `mem[a]`. -/
def State.peek (s : State) (a : Nat) : Byte := Memory.read .bus s.mem a

/-- `mem[a] <- v`, the byte alone. -/
def State.poke (s : State) (a : Nat) (v : Byte) : State := { s with mem := Memory.write .bus s.mem a v }

/-- `tick(n)` (R33). -/
def State.tick (s : State) (n : Nat) : State := { s with ticks := s.ticks + n }

/-- The five interrupt sources, in priority order (R393). -/
inductive Irq where
  | vblank
  | lcdStat
  | timer
  | serial
  | joypad
deriving DecidableEq, Repr

/-- The source's bit in IF and IE (R393). -/
def Irq.bit (k : Irq) : Nat :=
  match k with
  | .vblank => 0
  | .lcdStat => 1
  | .timer => 2
  | .serial => 3
  | .joypad => 4

/-- The source's fixed service address (R393, R404). -/
def Irq.vector (k : Irq) : Word :=
  match k with
  | .vblank => 0x0040
  | .lcdStat => 0x0048
  | .timer => 0x0050
  | .serial => 0x0058
  | .joypad => 0x0060

/-- The source's bit alone, as a byte. -/
def Irq.mask (k : Irq) : Byte := 1 <<< k.bit

/-- `raise_irq(k)` (R396): a source whose IE bit is 0 leaves no trace. -/
def State.raiseIrq (s : State) (k : Irq) : State :=
  if bitOf (s.peek 0xFFFF) k.bit then s.poke 0xFF0F (s.peek 0xFF0F ||| k.mask) else s

end Sys2Proof.Machine
end

