-- ==== Sys2Proof/Machine/Apu.lean ====
section
/-! DEFINITION. The AudioEngine (62_apu.md): channel triggers, one APU tick of each channel, output levels, the mixer and
`render`. -/

namespace Sys2Proof.Machine

/-- The 11-bit frequency of NRk3 (at `lo`) and NRk4 (at `hi`) (R511). -/
def State.freq (s : State) (lo hi : Nat) : BitVec 11 := (s.peek hi).extractLsb' 0 3 ++ s.peek lo

/-- Ticks per duty step of a square channel (R512). -/
def squarePeriod (f : BitVec 11) : Nat := (2048 - f.toNat) * 4

/-- Ticks per wave sample (R513). -/
def wavePeriod (f : BitVec 11) : Nat := (2048 - f.toNat) * 2

/-- The noise divisors by code (R514). -/
def divisorTable : List Nat := [8, 16, 32, 48, 64, 80, 96, 112]

/-- Ticks per LFSR step from NR43 (R514). -/
def noisePeriod (nr43 : Byte) : Nat := divisorTable.getD (field nr43 0 3) 8 <<< field nr43 4 4

/-- `period(1)` (R511, R512). -/
def State.period1 (s : State) : Nat := squarePeriod (s.freq 0xFF13 0xFF14)

/-- `period(2)` (R511, R512). -/
def State.period2 (s : State) : Nat := squarePeriod (s.freq 0xFF18 0xFF19)

/-- `period(3)` (R511, R513). -/
def State.period3 (s : State) : Nat := wavePeriod (s.freq 0xFF1D 0xFF1E)

/-- `period(4)` (R511, R514). -/
def State.period4 (s : State) : Nat := noisePeriod (s.peek 0xFF22)

/-! ## Trigger -/

/-- The part of a trigger every channel has (R504); `ctl` is NRk4, `units` the length in units of 16384 ticks. -/
def Voice.start (period : Nat) (ctl : Byte) (units : Nat) : Voice :=
  { active := true, bounded := bitOf ctl 6, lenLeft := units * 16384, timer := period }

/-- The envelope a trigger latches from NRk2 (R505). -/
def Envelope.latch (nrk2 : Byte) : Envelope :=
  { volume := nrk2.extractLsb' 4 4, up := bitOf nrk2 3, period := nrk2.extractLsb' 0 3, left := field nrk2 0 3 * 65536 }

/-- The length units of NR11, NR21 and NR41 (R504). -/
def lengthUnits (nrk1 : Byte) : Nat := 64 - field nrk1 0 6

/-- Trigger channel 1 (R504, R505, R506). -/
def State.trigger1 (s : State) : State :=
  { s with apu :=
    { s.apu with
      ch1 := { voice := .start s.period1 (s.peek 0xFF14) (lengthUnits (s.peek 0xFF11)), pos := 0,
               env := .latch (s.peek 0xFF12) },
      sweep := { shadow := s.freq 0xFF13 0xFF14, left := field (s.peek 0xFF10) 4 3 * 32768 } } }

/-- Trigger channel 2 (R504, R505). -/
def State.trigger2 (s : State) : State :=
  { s with apu :=
    { s.apu with
      ch2 := { voice := .start s.period2 (s.peek 0xFF19) (lengthUnits (s.peek 0xFF16)), pos := 0,
               env := .latch (s.peek 0xFF17) } } }

/-- Trigger channel 3 (R504, R507). -/
def State.trigger3 (s : State) : State :=
  { s with apu :=
    { s.apu with
      ch3 := { voice := .start s.period3 (s.peek 0xFF1E) (256 - (s.peek 0xFF1B).toNat), pos := 0 } } }

/-- Trigger channel 4 (R504, R505, R507). -/
def State.trigger4 (s : State) : State :=
  { s with apu :=
    { s.apu with
      ch4 := { voice := .start s.period4 (s.peek 0xFF23) (lengthUnits (s.peek 0xFF20)),
               env := .latch (s.peek 0xFF21), lfsr := 0x7FFF } } }

/-! ## One APU tick -/

/-- The length part of an APU tick (R510 step 2, R515). -/
def Voice.countLength (v : Voice) : Voice :=
  if v.bounded then { v with lenLeft := v.lenLeft - 1, active := decide (v.lenLeft - 1 ≠ 0) } else v

/-- The frequency timer runs out in this tick (R510 step 1). -/
def Voice.expires (v : Voice) : Bool := decide (v.timer - 1 = 0)

/-- The frequency timer after this tick (R510 step 1); `period` is the reload. -/
def Voice.countTimer (period : Nat) (v : Voice) : Voice :=
  { v with timer := if v.expires then period else v.timer - 1 }

/-- One envelope step of the volume, clamped to 0..15 (R516). -/
def Envelope.stepVolume (e : Envelope) : BitVec 4 :=
  if e.up then (if e.volume = 15 then 15 else e.volume + 1) else (if e.volume = 0 then 0 else e.volume - 1)

/-- The envelope part of an APU tick (R516). -/
def Envelope.tick (e : Envelope) : Envelope :=
  if e.period = 0 then e
  else if e.left - 1 = 0 then { e with volume := e.stepVolume, left := e.period.toNat * 65536 }
  else { e with left := e.left - 1 }

/-- One APU tick of an active square channel, sweep apart (R510). -/
def Square.tick (period : Nat) (c : Square) : Square :=
  let pos := if c.voice.expires then c.pos + 1 else c.pos
  let voice := (c.voice.countTimer period).countLength
  if voice.active then { voice := voice, pos := pos, env := c.env.tick } else { c with voice := voice, pos := pos }

/-- The candidate frequency of a sweep step (R517), before the ceiling test. -/
def sweepCandidate (nr10 : Byte) (shadow : BitVec 11) : Nat :=
  let delta := shadow.toNat >>> field nr10 0 3
  if bitOf nr10 3 then shadow.toNat - delta else shadow.toNat + delta

/-- A sweep step that stays at or under the 11-bit ceiling: the shadow takes the frequency, and NR13 and NR14 are
written back without side effect (R517). -/
def State.applySweep (s : State) (cand : Nat) : State :=
  let f : BitVec 11 := BitVec.ofNat 11 cand
  let s1 := (s.poke 0xFF13 (f.extractLsb' 0 8)).poke 0xFF14 ((s.peek 0xFF14 &&& 0xF8) ||| (f.extractLsb' 8 3).zeroExtend 8)
  { s1 with apu := { s1.apu with sweep := { s1.apu.sweep with shadow := f } } }

/-- Set the sweep's countdown. -/
def State.setSweepLeft (s : State) (n : Nat) : State :=
  { s with apu := { s.apu with sweep := { s.apu.sweep with left := n } } }

/-- Channel 1 turned off. -/
def State.silence1 (s : State) : State :=
  { s with apu := { s.apu with ch1 := { s.apu.ch1 with voice := { s.apu.ch1.voice with active := false } } } }

/-- The sweep part of an APU tick of channel 1 (R517). -/
def State.sweepTick (s : State) : State :=
  if s.apu.sweep.left = 0 then s
  else if s.apu.sweep.left - 1 = 0 then
    let nr10 := s.peek 0xFF10
    let reload := field nr10 4 3 * 32768
    if field nr10 0 3 = 0 then s.setSweepLeft reload
    else
      let cand := sweepCandidate nr10 s.apu.sweep.shadow
      if 2047 < cand then (s.setSweepLeft 0).silence1 else (s.applySweep cand).setSweepLeft reload
  else s.setSweepLeft (s.apu.sweep.left - 1)

/-- The LFSR after one step; `narrow` is NR43 bit 3 (R518). -/
def lfsrStep (narrow : Bool) (l : BitVec 15) : BitVec 15 :=
  let x : BitVec 15 := (l ^^^ (l >>> 1)) &&& 1
  let wide := (l >>> 1) ||| (x <<< 14)
  if narrow then (wide &&& ~~~(0x0040 : BitVec 15)) ||| (x <<< 6) else wide

/-- One APU tick of channel 1 (R510, R516, R517); an inactive channel does not advance. -/
def State.apuTick1 (s : State) : State :=
  if s.apu.ch1.voice.active then
    let s1 := { s with apu := { s.apu with ch1 := s.apu.ch1.tick s.period1 } }
    if s1.apu.ch1.voice.active then s1.sweepTick else s1
  else s

/-- One APU tick of channel 2 (R510, R516). -/
def State.apuTick2 (s : State) : State :=
  if s.apu.ch2.voice.active then { s with apu := { s.apu with ch2 := s.apu.ch2.tick s.period2 } } else s

/-- One APU tick of channel 3 (R510). -/
def State.apuTick3 (s : State) : State :=
  if s.apu.ch3.voice.active then
    let c := s.apu.ch3
    { s with apu :=
      { s.apu with
        ch3 := { voice := (c.voice.countTimer s.period3).countLength,
                 pos := if c.voice.expires then c.pos + 1 else c.pos } } }
  else s

/-- One APU tick of channel 4 (R510, R516, R518). -/
def State.apuTick4 (s : State) : State :=
  if s.apu.ch4.voice.active then
    let c := s.apu.ch4
    let lfsr := if c.voice.expires then lfsrStep (bitOf (s.peek 0xFF22) 3) c.lfsr else c.lfsr
    let voice := (c.voice.countTimer s.period4).countLength
    { s with apu :=
      { s.apu with ch4 := { voice := voice, env := if voice.active then c.env.tick else c.env, lfsr := lfsr } } }
  else s

/-! ## Output -/

/-- The duty patterns, step 0 in bit 7 (R522). -/
def dutyTable : List Byte := [0b00000001, 0b10000001, 0b10000111, 0b01111110]

/-- The level of a square channel; `nrk1` is its duty register (R522, R532). -/
def Square.level (nrk1 : Byte) (c : Square) : Nat :=
  if c.voice.active && bitOf (dutyTable.getD (field nrk1 6 2) 0) (7 - c.pos.val) then c.env.volume.toNat else 0

/-- Sample `p` of the wave table (R58, R530). -/
def State.waveSample (s : State) (p : Nat) : Nat :=
  let b := s.peek (0xFF30 + p / 2)
  if p % 2 = 0 then field b 4 4 else field b 0 4

/-- The level of the wave channel (R530, R532). -/
def State.waveLevel (s : State) : Nat :=
  if s.apu.ch3.voice.active && bitOf (s.peek 0xFF1A) 7 then
    match field (s.peek 0xFF1C) 5 2 with
    | 0 => 0
    | o + 1 => s.waveSample s.apu.ch3.pos.val >>> o
  else 0

/-- The level of the noise channel (R531, R532). -/
def Noise.level (c : Noise) : Nat :=
  if c.voice.active && !c.lfsr.getLsbD 0 then c.env.volume.toNat else 0

/-- The levels l1..l4 (R522 to R532). -/
def State.levels (s : State) : List Nat :=
  [s.apu.ch1.level (s.peek 0xFF11), s.apu.ch2.level (s.peek 0xFF16), s.waveLevel, s.apu.ch4.level]

/-- The sum of the levels whose routing bit, counted from bit `lo` of NR51, is 1 (R538). -/
def routedSum (nr51 : Byte) (lo : Nat) (levels : List Nat) : Nat :=
  match levels with
  | [] => 0
  | l :: rest => (if bitOf nr51 lo then l else 0) + routedSum nr51 (lo + 1) rest

/-- One stereo sample (left, right) (R538). -/
def State.mix (s : State) : Nat × Nat :=
  (routedSum (s.peek 0xFF25) 4 s.levels * (field (s.peek 0xFF24) 4 3 + 1),
   routedSum (s.peek 0xFF25) 0 s.levels * (field (s.peek 0xFF24) 0 3 + 1))

/-- The ticks by which sample number `j` advances the channels (R541). -/
def sampleTicks (rate j : Nat) : Nat := (j + 1) * Config.clockHz / rate - j * Config.clockHz / rate

/-- Every channel advanced by `d` ticks, channel after channel (R541). -/
def State.apuAdvance (s : State) (d : Nat) : State :=
  repeatN State.apuTick4 d (repeatN State.apuTick3 d (repeatN State.apuTick2 d (repeatN State.apuTick1 d s)))

/-- One more sample done. -/
def State.countSample (s : State) : State := { s with apu := { s.apu with samplesDone := s.apu.samplesDone + 1 } }

/-- `n` samples of a render (R541): the state after them and the samples in order. -/
def renderSamples (n : Nat) (s : State) : State × List (Nat × Nat) :=
  match n with
  | 0 => (s, [])
  | n + 1 =>
    let s1 := s.apuAdvance (sampleTicks s.params.sampleRate s.apu.samplesDone)
    let rest := renderSamples n s1.countSample
    (rest.1, s1.mix :: rest.2)

/-- `render(elapsedMillis)` (R541): the state after it and the samples it returns. -/
def State.render (s : State) (ms : Nat) : State × List (Nat × Nat) :=
  let total := s.apu.sampleFrac + ms * s.params.sampleRate
  renderSamples (total / 1000) { s with apu := { s.apu with sampleFrac := total % 1000 } }

end Sys2Proof.Machine
end

