-- ==== Sys2Proof/Machine/Ppu.lean ====
section
/-! DEFINITION. The PixelPipeline (61_ppu.md): the mode machine and the scanline compositor, over the derived tile cache
and palettes of 20_memory.md section 7. -/

namespace Sys2Proof.Machine

/-! ## Derived state -/

/-- `tile_cache[tile][row][col]` (R37, R104). -/
def State.tilePixel (s : State) (tile row col : Nat) : BitVec 2 :=
  let base := 0x8000 + 16 * tile + 2 * row
  BitVec.ofBool (bitOf (s.peek (base + 1)) (7 - col)) ++ BitVec.ofBool (bitOf (s.peek base) (7 - col))

/-- `bg_tile(n)` (R105); `unsignedTiles` is LCDC bit 4. -/
def bgTile (unsignedTiles : Bool) (n : Byte) : Nat :=
  if unsignedTiles then n.toNat else (256 + n.toInt).toNat

/-- `pal(P, i)` (R38, R106). -/
def palette (p : Byte) (i : BitVec 2) : Shade := (p >>> (2 * i.toNat)).extractLsb' 0 2

/-- LCDC (R59). -/
def State.lcdc (s : State) : Byte := s.peek 0xFF40

/-! ## The compositor -/

/-- One pixel of a tile map: the colour index at map coordinates (px, py) of the map at `map` (R465, R473). -/
def State.mapPixel (s : State) (map px py : Nat) : BitVec 2 :=
  s.tilePixel (bgTile (bitOf s.lcdc 4) (s.peek (map + 32 * (py / 8) + px / 8))) (py % 8) (px % 8)

/-- Pixel (x, ly) lies inside the window (R473): `x >= WX - 7` over the integers. -/
def State.inWindow (s : State) (x ly : Nat) : Bool :=
  bitOf s.lcdc 5 && decide ((s.peek 0xFF4A).toNat ≤ ly) && decide ((s.peek 0xFF4B).toNat ≤ x + 7)

/-- `bgci[x]` on line `ly` (R464, R465, R473). -/
def State.bgIndex (s : State) (x ly : Nat) : BitVec 2 :=
  if bitOf s.lcdc 0 then
    if s.inWindow x ly then
      s.mapPixel (if bitOf s.lcdc 6 then 0x9C00 else 0x9800) (x + 7 - (s.peek 0xFF4B).toNat) (ly - (s.peek 0xFF4A).toNat)
    else
      s.mapPixel (if bitOf s.lcdc 3 then 0x9C00 else 0x9800) ((x + (s.peek 0xFF43).toNat) % 256)
        ((ly + (s.peek 0xFF42).toNat) % 256)
  else 0

/-- `bgsh[x]` on line `ly` (R464, R465, R473). -/
def State.bgShade (s : State) (x ly : Nat) : Shade :=
  if bitOf s.lcdc 0 then palette (s.peek 0xFF47) (s.bgIndex x ly) else 0

/-- One OAM entry (R474, R475). -/
structure Sprite where
  y     : Nat
  x     : Nat
  tile  : Byte
  attrs : Byte
deriving DecidableEq, Repr

/-- OAM entry `i` (R474). -/
def State.sprite (s : State) (i : Nat) : Sprite :=
  { y := (s.peek (0xFE00 + 4 * i)).toNat, x := (s.peek (0xFE00 + 4 * i + 1)).toNat,
    tile := s.peek (0xFE00 + 4 * i + 2), attrs := s.peek (0xFE00 + 4 * i + 3) }

/-- The sprite height (R474). -/
def State.spriteHeight (s : State) : Nat := if bitOf s.lcdc 2 then 16 else 8

/-- The entry covers line `ly`: `Y - 16 <= ly < Y - 16 + h` over the integers (R474). -/
def Sprite.covers (o : Sprite) (h ly : Nat) : Bool := decide (o.y ≤ ly + 16) && decide (ly + 16 < o.y + h)

/-- Screen column `sx` is one of the entry's eight columns: `sx = X - 8 + c` with `c` in 0..7 (R476). -/
def Sprite.hasColumn (o : Sprite) (sx : Nat) : Bool := decide (o.x ≤ sx + 8) && decide (sx + 8 < o.x + 8)

/-- The entry's colour index at screen column `sx` of line `ly`, both covered (R476). -/
def State.spriteIndex (s : State) (o : Sprite) (sx ly : Nat) : BitVec 2 :=
  let h := s.spriteHeight
  let up := ly + 16 - o.y
  let row := if bitOf o.attrs 6 then h - 1 - up else up
  let tile := if h = 16 then (o.tile &&& 0xFE).toNat + row / 8 else o.tile.toNat
  let c := sx + 8 - o.x
  s.tilePixel tile (row % 8) (if bitOf o.attrs 5 then 7 - c else c)

/-- The background pixel at this column is "non-zero" for the priority test (R477). -/
def State.bgNonZero (s : State) (x ly : Nat) : Bool :=
  match s.params.priorityTest with
  | .colorIndex => decide (s.bgIndex x ly ≠ 0)
  | .shade => decide (s.bgShade x ly ≠ 0)

/-- The shade the entry writes at screen column `sx` of line `ly`, if it writes one (R474 to R477). -/
def State.spritePixel (s : State) (o : Sprite) (sx ly : Nat) : Option Shade :=
  if o.covers s.spriteHeight ly && o.hasColumn sx then
    let ci := s.spriteIndex o sx ly
    if ci = 0 then none
    else if bitOf o.attrs 7 && s.bgNonZero sx ly then none
    else some (palette (s.peek (if bitOf o.attrs 4 then 0xFF49 else 0xFF48)) ci)
  else none

/-- The background and window over a line (R463 to R473). -/
def State.bgLine (s : State) (ly : Nat) : Vector Shade 160 := Vector.ofFn fun x => s.bgShade x.val ly

/-- One OAM entry drawn over a line (R474 to R477). -/
def State.drawSprite (s : State) (ly : Nat) (line : Vector Shade 160) (o : Sprite) : Vector Shade 160 :=
  if o.covers s.spriteHeight ly then Vector.ofFn fun x => (s.spritePixel o x.val ly).getD (line.get x) else line

/-- A composed line: the background, then the OAM entries in ascending order, a later one over an earlier (R463,
R474). -/
def State.composeLine (s : State) (ly : Nat) : Vector Shade 160 :=
  if bitOf s.lcdc 1 then ((List.range 40).map s.sprite).foldl (s.drawSprite ly) (s.bgLine ly) else s.bgLine ly

/-- `render_line(line)` (R460, R463). -/
def State.renderLine (s : State) : State :=
  if bitOf s.lcdc 7 then
    { s with ppu := { s.ppu with framebuffer := s.ppu.framebuffer.setIfInBounds s.ppu.line (s.composeLine s.ppu.line) } }
  else s

/-! ## The mode machine -/

/-- Ticks a mode lasts (R452). -/
def PpuMode.duration (m : PpuMode) : Nat :=
  match m with
  | .oamScan => 80
  | .transfer => 172
  | .hblank => 204
  | .vblank => 456

/-- The mode's number in STAT (R60, R462). -/
def PpuMode.code (m : PpuMode) : Byte :=
  match m with
  | .hblank => 0
  | .vblank => 1
  | .oamScan => 2
  | .transfer => 3

/-- `ppu_mode <- m`. -/
def State.setMode (s : State) (m : PpuMode) : State := { s with ppu := { s.ppu with mode := m } }

/-- `line <- n`. -/
def State.setLine (s : State) (n : Nat) : State := { s with ppu := { s.ppu with line := n } }

/-- End of OAM-scan (R453). -/
def State.endOamScan (s : State) : State := s.setMode .transfer

/-- End of pixel transfer (R454, R458). -/
def State.endTransfer (s : State) : State :=
  let s1 := if s.ppu.line = (s.peek 0xFF45).toNat then s.raiseIrq .lcdStat else s
  s1.renderLine.setMode .hblank

/-- End of H-blank (R455). -/
def State.endHblank (s : State) : State :=
  let s1 := s.setLine (s.ppu.line + 1)
  if s1.ppu.line = 144 then
    let s2 := s1.raiseIrq .vblank
    { s2 with ppu := { s2.ppu with frameReady := true, mode := .vblank } }
  else s1.setMode .oamScan

/-- End of a V-blank line (R456). -/
def State.endVblank (s : State) : State :=
  let s1 := s.setLine (s.ppu.line + 1)
  if 153 < s1.ppu.line then (s1.setLine 0).setMode .oamScan else s1

/-- `end_of_mode(ppu_mode)` (R451). -/
def State.endOfMode (s : State) : State :=
  match s.ppu.mode with
  | .oamScan => s.endOamScan
  | .transfer => s.endTransfer
  | .hblank => s.endHblank
  | .vblank => s.endVblank

/-- `ppu_budget <- n`. -/
def State.setBudget (s : State) (n : Nat) : State := { s with ppu := { s.ppu with budget := n } }

/-- The loop of R451. `fuel` bounds the number of transitions; every one spends at least 80 ticks, so
`budget / 80` is enough (Laws/Ppu.lean). -/
def ppuLoop (fuel : Nat) (s : State) : State :=
  match fuel with
  | 0 => s
  | fuel + 1 =>
    if s.ppu.mode.duration ≤ s.ppu.budget then
      ppuLoop fuel (s.setBudget (s.ppu.budget - s.ppu.mode.duration)).endOfMode
    else s

/-- `PixelPipeline.step()` (R451). -/
def State.ppuStep (s : State) : State :=
  let budget := s.ppu.budget + (s.ticks - s.ppu.last)
  ppuLoop (budget / 80) { s with ppu := { s.ppu with budget := budget, last := s.ticks } }

end Sys2Proof.Machine
end

