-- ==== Sys2Proof/Syntax.lean ====
section
/-! DEFINITION. The instruction set as syntax: one constructor per row of spec/opcode_table.json (R156), the operand
fields of R143 as types, and the row families of R144 as functions from operand fields to constructors. The decoder reads
the fields and calls the families; the encoder (Decode.lean) is written from the opcode map instead. -/

namespace Sys2Proof

/-- A 3-bit field: a bit number, an RST target, the y or z of an opcode byte (R143). -/
inductive Octal where
  | o0
  | o1
  | o2
  | o3
  | o4
  | o5
  | o6
  | o7
deriving DecidableEq, Repr

/-- The field as a number. -/
def Octal.toNat (o : Octal) : Nat :=
  match o with
  | .o0 => 0
  | .o1 => 1
  | .o2 => 2
  | .o3 => 3
  | .o4 => 4
  | .o5 => 5
  | .o6 => 6
  | .o7 => 7

/-- The 8-bit registers an `r` field can name (R143). -/
inductive Reg8 where
  | b
  | c
  | d
  | e
  | h
  | l
  | a
deriving DecidableEq, Repr

/-- The code of a register (R143). -/
def Reg8.code (r : Reg8) : Nat :=
  match r with
  | .b => 0
  | .c => 1
  | .d => 2
  | .e => 3
  | .h => 4
  | .l => 5
  | .a => 7

/-- An 8-bit operand `r`: a register, or with code 6 the byte at HL (R143). -/
inductive Opnd where
  | reg (r : Reg8)
  | indHl
deriving DecidableEq, Repr

/-- The code of an operand (R143). -/
def Opnd.code (o : Opnd) : Nat :=
  match o with
  | .reg r => r.code
  | .indHl => 6

/-- The 16-bit operand `rr` (R143). -/
inductive Pair where
  | bc
  | de
  | hl
  | sp
deriving DecidableEq, Repr

/-- The code of a pair (R143). -/
def Pair.code (p : Pair) : Nat :=
  match p with
  | .bc => 0
  | .de => 1
  | .hl => 2
  | .sp => 3

/-- The stacked operand `qq` (R143). -/
inductive StackPair where
  | bc
  | de
  | hl
  | af
deriving DecidableEq, Repr

/-- The code of a stacked pair (R143). -/
def StackPair.code (p : StackPair) : Nat :=
  match p with
  | .bc => 0
  | .de => 1
  | .hl => 2
  | .af => 3

/-- The condition `cc` (R143, R321). -/
inductive Cond where
  | nz
  | z
  | nc
  | c
deriving DecidableEq, Repr

/-- The code of a condition (R143). -/
def Cond.code (cc : Cond) : Nat :=
  match cc with
  | .nz => 0
  | .z => 1
  | .nc => 2
  | .c => 3

/-- The 8-bit ALU operations (R144, R221). -/
inductive AluOp where
  | add
  | adc
  | sub
  | sbc
  | and
  | xor
  | or
  | cp
deriving DecidableEq, Repr

/-- The operation code `ooo` (R221). -/
def AluOp.code (op : AluOp) : Nat :=
  match op with
  | .add => 0
  | .adc => 1
  | .sub => 2
  | .sbc => 3
  | .and => 4
  | .xor => 5
  | .or => 6
  | .cp => 7

/-- The rotate and shift operations (R144). -/
inductive RotOp where
  | rlc
  | rrc
  | rl
  | rr
  | sla
  | sra
  | swap
  | srl
deriving DecidableEq, Repr

/-- The operation code of a rotate or shift (R144). -/
def RotOp.code (op : RotOp) : Nat :=
  match op with
  | .rlc => 0
  | .rrc => 1
  | .rl => 2
  | .rr => 3
  | .sla => 4
  | .sra => 5
  | .swap => 6
  | .srl => 7

/-- The instructions: the rows of spec/opcode_table.json, those with an operand after the opcode first (Lean's
runtime numbers no constructor with a field above 244), each part in the table's order. `n` is an unsigned immediate byte, `e` a displacement byte
(sign-extended by its meaning), `w` a 16-bit immediate (R147); a `cb` name is a row of the secondary table (R150).
`illegal` rows are the 11 bytes of R151. `prefixCb op2` is the row of the 0xCB byte itself with the byte after it (R366):
it is no instruction of its own, its words are those of the `cb` rows, and the decoder never answers it. -/
inductive Instr where
  | ldBcD16 (w : Word)
  | ldBD8 (n : Byte)
  | ldIndA16Sp (w : Word)
  | ldCD8 (n : Byte)
  | stop (ignored : Byte)
  | ldDeD16 (w : Word)
  | ldDD8 (n : Byte)
  | jrE8 (e : Byte)
  | ldED8 (n : Byte)
  | jrNzE8 (e : Byte)
  | ldHlD16 (w : Word)
  | ldHD8 (n : Byte)
  | jrZE8 (e : Byte)
  | ldLD8 (n : Byte)
  | jrNcE8 (e : Byte)
  | ldSpD16 (w : Word)
  | ldIndHlD8 (n : Byte)
  | jrCE8 (e : Byte)
  | ldAD8 (n : Byte)
  | jpNzA16 (w : Word)
  | jpA16 (w : Word)
  | callNzA16 (w : Word)
  | addAD8 (n : Byte)
  | jpZA16 (w : Word)
  | prefixCb (op2 : Byte)
  | callZA16 (w : Word)
  | callA16 (w : Word)
  | adcAD8 (n : Byte)
  | jpNcA16 (w : Word)
  | callNcA16 (w : Word)
  | subD8 (n : Byte)
  | jpCA16 (w : Word)
  | callCA16 (w : Word)
  | sbcAD8 (n : Byte)
  | ldhIndA8A (n : Byte)
  | andD8 (n : Byte)
  | addSpE8 (e : Byte)
  | ldIndA16A (w : Word)
  | xorD8 (n : Byte)
  | ldhAIndA8 (n : Byte)
  | orD8 (n : Byte)
  | ldHlSpE8 (e : Byte)
  | ldAIndA16 (w : Word)
  | cpD8 (n : Byte)
  | nop
  | ldIndBcA
  | incBc
  | incB
  | decB
  | rlca
  | addHlBc
  | ldAIndBc
  | decBc
  | incC
  | decC
  | rrca
  | ldIndDeA
  | incDe
  | incD
  | decD
  | rla
  | addHlDe
  | ldAIndDe
  | decDe
  | incE
  | decE
  | rra
  | ldIndHlIncA
  | incHl
  | incH
  | decH
  | daa
  | addHlHl
  | ldAIndHlInc
  | decHl
  | incL
  | decL
  | cpl
  | ldIndHlDecA
  | incSp
  | incIndHl
  | decIndHl
  | scf
  | addHlSp
  | ldAIndHlDec
  | decSp
  | incA
  | decA
  | ccf
  | ldBB
  | ldBC
  | ldBD
  | ldBE
  | ldBH
  | ldBL
  | ldBIndHl
  | ldBA
  | ldCB
  | ldCC
  | ldCD
  | ldCE
  | ldCH
  | ldCL
  | ldCIndHl
  | ldCA
  | ldDB
  | ldDC
  | ldDD
  | ldDE
  | ldDH
  | ldDL
  | ldDIndHl
  | ldDA
  | ldEB
  | ldEC
  | ldED
  | ldEE
  | ldEH
  | ldEL
  | ldEIndHl
  | ldEA
  | ldHB
  | ldHC
  | ldHD
  | ldHE
  | ldHH
  | ldHL
  | ldHIndHl
  | ldHA
  | ldLB
  | ldLC
  | ldLD
  | ldLE
  | ldLH
  | ldLL
  | ldLIndHl
  | ldLA
  | ldIndHlB
  | ldIndHlC
  | ldIndHlD
  | ldIndHlE
  | ldIndHlH
  | ldIndHlL
  | halt
  | ldIndHlA
  | ldAB
  | ldAC
  | ldAD
  | ldAE
  | ldAH
  | ldAL
  | ldAIndHl
  | ldAA
  | addAB
  | addAC
  | addAD
  | addAE
  | addAH
  | addAL
  | addAIndHl
  | addAA
  | adcAB
  | adcAC
  | adcAD
  | adcAE
  | adcAH
  | adcAL
  | adcAIndHl
  | adcAA
  | subB
  | subC
  | subD
  | subE
  | subH
  | subL
  | subIndHl
  | subA
  | sbcAB
  | sbcAC
  | sbcAD
  | sbcAE
  | sbcAH
  | sbcAL
  | sbcAIndHl
  | sbcAA
  | andB
  | andC
  | andD
  | andE
  | andH
  | andL
  | andIndHl
  | andA
  | xorB
  | xorC
  | xorD
  | xorE
  | xorH
  | xorL
  | xorIndHl
  | xorA
  | orB
  | orC
  | orD
  | orE
  | orH
  | orL
  | orIndHl
  | orA
  | cpB
  | cpC
  | cpD
  | cpE
  | cpH
  | cpL
  | cpIndHl
  | cpA
  | retNz
  | popBc
  | pushBc
  | rst00
  | retZ
  | ret
  | rst08
  | retNc
  | popDe
  | illegalD3
  | pushDe
  | rst10
  | retC
  | reti
  | illegalDB
  | illegalDD
  | rst18
  | popHl
  | ldIndCA
  | illegalE3
  | illegalE4
  | pushHl
  | rst20
  | jpHl
  | illegalEB
  | illegalEC
  | illegalED
  | rst28
  | popAf
  | ldAIndC
  | di
  | illegalF4
  | pushAf
  | rst30
  | ldSpHl
  | ei
  | illegalFC
  | illegalFD
  | rst38
  | cbRlcB
  | cbRlcC
  | cbRlcD
  | cbRlcE
  | cbRlcH
  | cbRlcL
  | cbRlcIndHl
  | cbRlcA
  | cbRrcB
  | cbRrcC
  | cbRrcD
  | cbRrcE
  | cbRrcH
  | cbRrcL
  | cbRrcIndHl
  | cbRrcA
  | cbRlB
  | cbRlC
  | cbRlD
  | cbRlE
  | cbRlH
  | cbRlL
  | cbRlIndHl
  | cbRlA
  | cbRrB
  | cbRrC
  | cbRrD
  | cbRrE
  | cbRrH
  | cbRrL
  | cbRrIndHl
  | cbRrA
  | cbSlaB
  | cbSlaC
  | cbSlaD
  | cbSlaE
  | cbSlaH
  | cbSlaL
  | cbSlaIndHl
  | cbSlaA
  | cbSraB
  | cbSraC
  | cbSraD
  | cbSraE
  | cbSraH
  | cbSraL
  | cbSraIndHl
  | cbSraA
  | cbSwapB
  | cbSwapC
  | cbSwapD
  | cbSwapE
  | cbSwapH
  | cbSwapL
  | cbSwapIndHl
  | cbSwapA
  | cbSrlB
  | cbSrlC
  | cbSrlD
  | cbSrlE
  | cbSrlH
  | cbSrlL
  | cbSrlIndHl
  | cbSrlA
  | cbBit0B
  | cbBit0C
  | cbBit0D
  | cbBit0E
  | cbBit0H
  | cbBit0L
  | cbBit0IndHl
  | cbBit0A
  | cbBit1B
  | cbBit1C
  | cbBit1D
  | cbBit1E
  | cbBit1H
  | cbBit1L
  | cbBit1IndHl
  | cbBit1A
  | cbBit2B
  | cbBit2C
  | cbBit2D
  | cbBit2E
  | cbBit2H
  | cbBit2L
  | cbBit2IndHl
  | cbBit2A
  | cbBit3B
  | cbBit3C
  | cbBit3D
  | cbBit3E
  | cbBit3H
  | cbBit3L
  | cbBit3IndHl
  | cbBit3A
  | cbBit4B
  | cbBit4C
  | cbBit4D
  | cbBit4E
  | cbBit4H
  | cbBit4L
  | cbBit4IndHl
  | cbBit4A
  | cbBit5B
  | cbBit5C
  | cbBit5D
  | cbBit5E
  | cbBit5H
  | cbBit5L
  | cbBit5IndHl
  | cbBit5A
  | cbBit6B
  | cbBit6C
  | cbBit6D
  | cbBit6E
  | cbBit6H
  | cbBit6L
  | cbBit6IndHl
  | cbBit6A
  | cbBit7B
  | cbBit7C
  | cbBit7D
  | cbBit7E
  | cbBit7H
  | cbBit7L
  | cbBit7IndHl
  | cbBit7A
  | cbRes0B
  | cbRes0C
  | cbRes0D
  | cbRes0E
  | cbRes0H
  | cbRes0L
  | cbRes0IndHl
  | cbRes0A
  | cbRes1B
  | cbRes1C
  | cbRes1D
  | cbRes1E
  | cbRes1H
  | cbRes1L
  | cbRes1IndHl
  | cbRes1A
  | cbRes2B
  | cbRes2C
  | cbRes2D
  | cbRes2E
  | cbRes2H
  | cbRes2L
  | cbRes2IndHl
  | cbRes2A
  | cbRes3B
  | cbRes3C
  | cbRes3D
  | cbRes3E
  | cbRes3H
  | cbRes3L
  | cbRes3IndHl
  | cbRes3A
  | cbRes4B
  | cbRes4C
  | cbRes4D
  | cbRes4E
  | cbRes4H
  | cbRes4L
  | cbRes4IndHl
  | cbRes4A
  | cbRes5B
  | cbRes5C
  | cbRes5D
  | cbRes5E
  | cbRes5H
  | cbRes5L
  | cbRes5IndHl
  | cbRes5A
  | cbRes6B
  | cbRes6C
  | cbRes6D
  | cbRes6E
  | cbRes6H
  | cbRes6L
  | cbRes6IndHl
  | cbRes6A
  | cbRes7B
  | cbRes7C
  | cbRes7D
  | cbRes7E
  | cbRes7H
  | cbRes7L
  | cbRes7IndHl
  | cbRes7A
  | cbSet0B
  | cbSet0C
  | cbSet0D
  | cbSet0E
  | cbSet0H
  | cbSet0L
  | cbSet0IndHl
  | cbSet0A
  | cbSet1B
  | cbSet1C
  | cbSet1D
  | cbSet1E
  | cbSet1H
  | cbSet1L
  | cbSet1IndHl
  | cbSet1A
  | cbSet2B
  | cbSet2C
  | cbSet2D
  | cbSet2E
  | cbSet2H
  | cbSet2L
  | cbSet2IndHl
  | cbSet2A
  | cbSet3B
  | cbSet3C
  | cbSet3D
  | cbSet3E
  | cbSet3H
  | cbSet3L
  | cbSet3IndHl
  | cbSet3A
  | cbSet4B
  | cbSet4C
  | cbSet4D
  | cbSet4E
  | cbSet4H
  | cbSet4L
  | cbSet4IndHl
  | cbSet4A
  | cbSet5B
  | cbSet5C
  | cbSet5D
  | cbSet5E
  | cbSet5H
  | cbSet5L
  | cbSet5IndHl
  | cbSet5A
  | cbSet6B
  | cbSet6C
  | cbSet6D
  | cbSet6E
  | cbSet6H
  | cbSet6L
  | cbSet6IndHl
  | cbSet6A
  | cbSet7B
  | cbSet7C
  | cbSet7D
  | cbSet7E
  | cbSet7H
  | cbSet7L
  | cbSet7IndHl
  | cbSet7A
deriving DecidableEq, Repr

/-! ## Row families by operand field (R144) -/

/-- LD r,r' (R171). -/
def Instr.mkLdRegReg : Reg8 → Reg8 → Instr
  | .b, .b => .ldBB | .b, .c => .ldBC | .b, .d => .ldBD | .b, .e => .ldBE | .b, .h => .ldBH | .b, .l => .ldBL | .b, .a => .ldBA
  | .c, .b => .ldCB | .c, .c => .ldCC | .c, .d => .ldCD | .c, .e => .ldCE | .c, .h => .ldCH | .c, .l => .ldCL | .c, .a => .ldCA
  | .d, .b => .ldDB | .d, .c => .ldDC | .d, .d => .ldDD | .d, .e => .ldDE | .d, .h => .ldDH | .d, .l => .ldDL | .d, .a => .ldDA
  | .e, .b => .ldEB | .e, .c => .ldEC | .e, .d => .ldED | .e, .e => .ldEE | .e, .h => .ldEH | .e, .l => .ldEL | .e, .a => .ldEA
  | .h, .b => .ldHB | .h, .c => .ldHC | .h, .d => .ldHD | .h, .e => .ldHE | .h, .h => .ldHH | .h, .l => .ldHL | .h, .a => .ldHA
  | .l, .b => .ldLB | .l, .c => .ldLC | .l, .d => .ldLD | .l, .e => .ldLE | .l, .h => .ldLH | .l, .l => .ldLL | .l, .a => .ldLA
  | .a, .b => .ldAB | .a, .c => .ldAC | .a, .d => .ldAD | .a, .e => .ldAE | .a, .h => .ldAH | .a, .l => .ldAL | .a, .a => .ldAA

/-- LD r,(HL) (R172). -/
def Instr.mkLdRegInd : Reg8 → Instr
  | .b => .ldBIndHl | .c => .ldCIndHl | .d => .ldDIndHl | .e => .ldEIndHl | .h => .ldHIndHl | .l => .ldLIndHl | .a => .ldAIndHl

/-- LD (HL),r (R173). -/
def Instr.mkLdIndReg : Reg8 → Instr
  | .b => .ldIndHlB | .c => .ldIndHlC | .d => .ldIndHlD | .e => .ldIndHlE | .h => .ldIndHlH | .l => .ldIndHlL | .a => .ldIndHlA

/-- The rows with x = 1: LD r[y],r[z], with HALT in the slot of LD (HL),(HL) (R144, R362). -/
def Instr.mkLd : Opnd → Opnd → Instr
  | .reg dst, .reg src => mkLdRegReg dst src
  | .reg dst, .indHl => mkLdRegInd dst
  | .indHl, .reg src => mkLdIndReg src
  | .indHl, .indHl => .halt

/-- LD r,d8 and LD (HL),d8 (R174, R175). -/
def Instr.mkLdImm : Opnd → Byte → Instr
  | .reg .b, n => .ldBD8 n
  | .reg .c, n => .ldCD8 n
  | .reg .d, n => .ldDD8 n
  | .reg .e, n => .ldED8 n
  | .reg .h, n => .ldHD8 n
  | .reg .l, n => .ldLD8 n
  | .indHl, n => .ldIndHlD8 n
  | .reg .a, n => .ldAD8 n

/-- INC r and INC (HL) (R230, R231). -/
def Instr.mkInc : Opnd → Instr
  | .reg .b => .incB | .reg .c => .incC | .reg .d => .incD | .reg .e => .incE | .reg .h => .incH | .reg .l => .incL | .indHl => .incIndHl | .reg .a => .incA

/-- DEC r and DEC (HL) (R232, R233). -/
def Instr.mkDec : Opnd → Instr
  | .reg .b => .decB | .reg .c => .decC | .reg .d => .decD | .reg .e => .decE | .reg .h => .decH | .reg .l => .decL | .indHl => .decIndHl | .reg .a => .decA

/-- ALU A,r and ALU A,(HL) (R221). -/
def Instr.mkAlu : AluOp → Opnd → Instr
  | .add, .reg .b => .addAB | .add, .reg .c => .addAC | .add, .reg .d => .addAD | .add, .reg .e => .addAE | .add, .reg .h => .addAH | .add, .reg .l => .addAL | .add, .indHl => .addAIndHl | .add, .reg .a => .addAA
  | .adc, .reg .b => .adcAB | .adc, .reg .c => .adcAC | .adc, .reg .d => .adcAD | .adc, .reg .e => .adcAE | .adc, .reg .h => .adcAH | .adc, .reg .l => .adcAL | .adc, .indHl => .adcAIndHl | .adc, .reg .a => .adcAA
  | .sub, .reg .b => .subB | .sub, .reg .c => .subC | .sub, .reg .d => .subD | .sub, .reg .e => .subE | .sub, .reg .h => .subH | .sub, .reg .l => .subL | .sub, .indHl => .subIndHl | .sub, .reg .a => .subA
  | .sbc, .reg .b => .sbcAB | .sbc, .reg .c => .sbcAC | .sbc, .reg .d => .sbcAD | .sbc, .reg .e => .sbcAE | .sbc, .reg .h => .sbcAH | .sbc, .reg .l => .sbcAL | .sbc, .indHl => .sbcAIndHl | .sbc, .reg .a => .sbcAA
  | .and, .reg .b => .andB | .and, .reg .c => .andC | .and, .reg .d => .andD | .and, .reg .e => .andE | .and, .reg .h => .andH | .and, .reg .l => .andL | .and, .indHl => .andIndHl | .and, .reg .a => .andA
  | .xor, .reg .b => .xorB | .xor, .reg .c => .xorC | .xor, .reg .d => .xorD | .xor, .reg .e => .xorE | .xor, .reg .h => .xorH | .xor, .reg .l => .xorL | .xor, .indHl => .xorIndHl | .xor, .reg .a => .xorA
  | .or, .reg .b => .orB | .or, .reg .c => .orC | .or, .reg .d => .orD | .or, .reg .e => .orE | .or, .reg .h => .orH | .or, .reg .l => .orL | .or, .indHl => .orIndHl | .or, .reg .a => .orA
  | .cp, .reg .b => .cpB | .cp, .reg .c => .cpC | .cp, .reg .d => .cpD | .cp, .reg .e => .cpE | .cp, .reg .h => .cpH | .cp, .reg .l => .cpL | .cp, .indHl => .cpIndHl | .cp, .reg .a => .cpA

/-- ALU A,d8 (R221). -/
def Instr.mkAluImm : AluOp → Byte → Instr
  | .add, n => .addAD8 n
  | .adc, n => .adcAD8 n
  | .sub, n => .subD8 n
  | .sbc, n => .sbcAD8 n
  | .and, n => .andD8 n
  | .xor, n => .xorD8 n
  | .or, n => .orD8 n
  | .cp, n => .cpD8 n

/-- LD rr,d16 (R190). -/
def Instr.mkLdPairImm : Pair → Word → Instr
  | .bc, w => .ldBcD16 w | .de, w => .ldDeD16 w | .hl, w => .ldHlD16 w | .sp, w => .ldSpD16 w

/-- INC rr (R261). -/
def Instr.mkIncPair : Pair → Instr
  | .bc => .incBc | .de => .incDe | .hl => .incHl | .sp => .incSp

/-- DEC rr (R262). -/
def Instr.mkDecPair : Pair → Instr
  | .bc => .decBc | .de => .decDe | .hl => .decHl | .sp => .decSp

/-- ADD HL,rr (R263). -/
def Instr.mkAddHl : Pair → Instr
  | .bc => .addHlBc | .de => .addHlDe | .hl => .addHlHl | .sp => .addHlSp

/-- PUSH qq (R193). -/
def Instr.mkPush : StackPair → Instr
  | .bc => .pushBc | .de => .pushDe | .hl => .pushHl | .af => .pushAf

/-- POP qq (R194, R195). -/
def Instr.mkPop : StackPair → Instr
  | .bc => .popBc | .de => .popDe | .hl => .popHl | .af => .popAf

/-- JP cc,a16 (R323). -/
def Instr.mkJpCond : Cond → Word → Instr
  | .nz, w => .jpNzA16 w | .z, w => .jpZA16 w | .nc, w => .jpNcA16 w | .c, w => .jpCA16 w

/-- JR cc,e8 (R326). -/
def Instr.mkJrCond : Cond → Byte → Instr
  | .nz, e => .jrNzE8 e | .z, e => .jrZE8 e | .nc, e => .jrNcE8 e | .c, e => .jrCE8 e

/-- CALL cc,a16 (R328). -/
def Instr.mkCallCond : Cond → Word → Instr
  | .nz, w => .callNzA16 w | .z, w => .callZA16 w | .nc, w => .callNcA16 w | .c, w => .callCA16 w

/-- RET cc (R330). -/
def Instr.mkRetCond : Cond → Instr
  | .nz => .retNz | .z => .retZ | .nc => .retNc | .c => .retC

/-- RST t (R332). -/
def Instr.mkRst : Octal → Instr
  | .o0 => .rst00 | .o1 => .rst08 | .o2 => .rst10 | .o3 => .rst18 | .o4 => .rst20 | .o5 => .rst28 | .o6 => .rst30 | .o7 => .rst38

/-- The CB rotates and shifts (R286 to R293). -/
def Instr.mkRot : RotOp → Opnd → Instr
  | .rlc, .reg .b => .cbRlcB | .rlc, .reg .c => .cbRlcC | .rlc, .reg .d => .cbRlcD | .rlc, .reg .e => .cbRlcE | .rlc, .reg .h => .cbRlcH | .rlc, .reg .l => .cbRlcL | .rlc, .indHl => .cbRlcIndHl | .rlc, .reg .a => .cbRlcA
  | .rrc, .reg .b => .cbRrcB | .rrc, .reg .c => .cbRrcC | .rrc, .reg .d => .cbRrcD | .rrc, .reg .e => .cbRrcE | .rrc, .reg .h => .cbRrcH | .rrc, .reg .l => .cbRrcL | .rrc, .indHl => .cbRrcIndHl | .rrc, .reg .a => .cbRrcA
  | .rl, .reg .b => .cbRlB | .rl, .reg .c => .cbRlC | .rl, .reg .d => .cbRlD | .rl, .reg .e => .cbRlE | .rl, .reg .h => .cbRlH | .rl, .reg .l => .cbRlL | .rl, .indHl => .cbRlIndHl | .rl, .reg .a => .cbRlA
  | .rr, .reg .b => .cbRrB | .rr, .reg .c => .cbRrC | .rr, .reg .d => .cbRrD | .rr, .reg .e => .cbRrE | .rr, .reg .h => .cbRrH | .rr, .reg .l => .cbRrL | .rr, .indHl => .cbRrIndHl | .rr, .reg .a => .cbRrA
  | .sla, .reg .b => .cbSlaB | .sla, .reg .c => .cbSlaC | .sla, .reg .d => .cbSlaD | .sla, .reg .e => .cbSlaE | .sla, .reg .h => .cbSlaH | .sla, .reg .l => .cbSlaL | .sla, .indHl => .cbSlaIndHl | .sla, .reg .a => .cbSlaA
  | .sra, .reg .b => .cbSraB | .sra, .reg .c => .cbSraC | .sra, .reg .d => .cbSraD | .sra, .reg .e => .cbSraE | .sra, .reg .h => .cbSraH | .sra, .reg .l => .cbSraL | .sra, .indHl => .cbSraIndHl | .sra, .reg .a => .cbSraA
  | .swap, .reg .b => .cbSwapB | .swap, .reg .c => .cbSwapC | .swap, .reg .d => .cbSwapD | .swap, .reg .e => .cbSwapE | .swap, .reg .h => .cbSwapH | .swap, .reg .l => .cbSwapL | .swap, .indHl => .cbSwapIndHl | .swap, .reg .a => .cbSwapA
  | .srl, .reg .b => .cbSrlB | .srl, .reg .c => .cbSrlC | .srl, .reg .d => .cbSrlD | .srl, .reg .e => .cbSrlE | .srl, .reg .h => .cbSrlH | .srl, .reg .l => .cbSrlL | .srl, .indHl => .cbSrlIndHl | .srl, .reg .a => .cbSrlA

/-- BIT b,r (R294). -/
def Instr.mkBit : Octal → Opnd → Instr
  | .o0, .reg .b => .cbBit0B | .o0, .reg .c => .cbBit0C | .o0, .reg .d => .cbBit0D | .o0, .reg .e => .cbBit0E | .o0, .reg .h => .cbBit0H | .o0, .reg .l => .cbBit0L | .o0, .indHl => .cbBit0IndHl | .o0, .reg .a => .cbBit0A
  | .o1, .reg .b => .cbBit1B | .o1, .reg .c => .cbBit1C | .o1, .reg .d => .cbBit1D | .o1, .reg .e => .cbBit1E | .o1, .reg .h => .cbBit1H | .o1, .reg .l => .cbBit1L | .o1, .indHl => .cbBit1IndHl | .o1, .reg .a => .cbBit1A
  | .o2, .reg .b => .cbBit2B | .o2, .reg .c => .cbBit2C | .o2, .reg .d => .cbBit2D | .o2, .reg .e => .cbBit2E | .o2, .reg .h => .cbBit2H | .o2, .reg .l => .cbBit2L | .o2, .indHl => .cbBit2IndHl | .o2, .reg .a => .cbBit2A
  | .o3, .reg .b => .cbBit3B | .o3, .reg .c => .cbBit3C | .o3, .reg .d => .cbBit3D | .o3, .reg .e => .cbBit3E | .o3, .reg .h => .cbBit3H | .o3, .reg .l => .cbBit3L | .o3, .indHl => .cbBit3IndHl | .o3, .reg .a => .cbBit3A
  | .o4, .reg .b => .cbBit4B | .o4, .reg .c => .cbBit4C | .o4, .reg .d => .cbBit4D | .o4, .reg .e => .cbBit4E | .o4, .reg .h => .cbBit4H | .o4, .reg .l => .cbBit4L | .o4, .indHl => .cbBit4IndHl | .o4, .reg .a => .cbBit4A
  | .o5, .reg .b => .cbBit5B | .o5, .reg .c => .cbBit5C | .o5, .reg .d => .cbBit5D | .o5, .reg .e => .cbBit5E | .o5, .reg .h => .cbBit5H | .o5, .reg .l => .cbBit5L | .o5, .indHl => .cbBit5IndHl | .o5, .reg .a => .cbBit5A
  | .o6, .reg .b => .cbBit6B | .o6, .reg .c => .cbBit6C | .o6, .reg .d => .cbBit6D | .o6, .reg .e => .cbBit6E | .o6, .reg .h => .cbBit6H | .o6, .reg .l => .cbBit6L | .o6, .indHl => .cbBit6IndHl | .o6, .reg .a => .cbBit6A
  | .o7, .reg .b => .cbBit7B | .o7, .reg .c => .cbBit7C | .o7, .reg .d => .cbBit7D | .o7, .reg .e => .cbBit7E | .o7, .reg .h => .cbBit7H | .o7, .reg .l => .cbBit7L | .o7, .indHl => .cbBit7IndHl | .o7, .reg .a => .cbBit7A

/-- RES b,r (R295). -/
def Instr.mkRes : Octal → Opnd → Instr
  | .o0, .reg .b => .cbRes0B | .o0, .reg .c => .cbRes0C | .o0, .reg .d => .cbRes0D | .o0, .reg .e => .cbRes0E | .o0, .reg .h => .cbRes0H | .o0, .reg .l => .cbRes0L | .o0, .indHl => .cbRes0IndHl | .o0, .reg .a => .cbRes0A
  | .o1, .reg .b => .cbRes1B | .o1, .reg .c => .cbRes1C | .o1, .reg .d => .cbRes1D | .o1, .reg .e => .cbRes1E | .o1, .reg .h => .cbRes1H | .o1, .reg .l => .cbRes1L | .o1, .indHl => .cbRes1IndHl | .o1, .reg .a => .cbRes1A
  | .o2, .reg .b => .cbRes2B | .o2, .reg .c => .cbRes2C | .o2, .reg .d => .cbRes2D | .o2, .reg .e => .cbRes2E | .o2, .reg .h => .cbRes2H | .o2, .reg .l => .cbRes2L | .o2, .indHl => .cbRes2IndHl | .o2, .reg .a => .cbRes2A
  | .o3, .reg .b => .cbRes3B | .o3, .reg .c => .cbRes3C | .o3, .reg .d => .cbRes3D | .o3, .reg .e => .cbRes3E | .o3, .reg .h => .cbRes3H | .o3, .reg .l => .cbRes3L | .o3, .indHl => .cbRes3IndHl | .o3, .reg .a => .cbRes3A
  | .o4, .reg .b => .cbRes4B | .o4, .reg .c => .cbRes4C | .o4, .reg .d => .cbRes4D | .o4, .reg .e => .cbRes4E | .o4, .reg .h => .cbRes4H | .o4, .reg .l => .cbRes4L | .o4, .indHl => .cbRes4IndHl | .o4, .reg .a => .cbRes4A
  | .o5, .reg .b => .cbRes5B | .o5, .reg .c => .cbRes5C | .o5, .reg .d => .cbRes5D | .o5, .reg .e => .cbRes5E | .o5, .reg .h => .cbRes5H | .o5, .reg .l => .cbRes5L | .o5, .indHl => .cbRes5IndHl | .o5, .reg .a => .cbRes5A
  | .o6, .reg .b => .cbRes6B | .o6, .reg .c => .cbRes6C | .o6, .reg .d => .cbRes6D | .o6, .reg .e => .cbRes6E | .o6, .reg .h => .cbRes6H | .o6, .reg .l => .cbRes6L | .o6, .indHl => .cbRes6IndHl | .o6, .reg .a => .cbRes6A
  | .o7, .reg .b => .cbRes7B | .o7, .reg .c => .cbRes7C | .o7, .reg .d => .cbRes7D | .o7, .reg .e => .cbRes7E | .o7, .reg .h => .cbRes7H | .o7, .reg .l => .cbRes7L | .o7, .indHl => .cbRes7IndHl | .o7, .reg .a => .cbRes7A

/-- SET b,r (R296). -/
def Instr.mkSet : Octal → Opnd → Instr
  | .o0, .reg .b => .cbSet0B | .o0, .reg .c => .cbSet0C | .o0, .reg .d => .cbSet0D | .o0, .reg .e => .cbSet0E | .o0, .reg .h => .cbSet0H | .o0, .reg .l => .cbSet0L | .o0, .indHl => .cbSet0IndHl | .o0, .reg .a => .cbSet0A
  | .o1, .reg .b => .cbSet1B | .o1, .reg .c => .cbSet1C | .o1, .reg .d => .cbSet1D | .o1, .reg .e => .cbSet1E | .o1, .reg .h => .cbSet1H | .o1, .reg .l => .cbSet1L | .o1, .indHl => .cbSet1IndHl | .o1, .reg .a => .cbSet1A
  | .o2, .reg .b => .cbSet2B | .o2, .reg .c => .cbSet2C | .o2, .reg .d => .cbSet2D | .o2, .reg .e => .cbSet2E | .o2, .reg .h => .cbSet2H | .o2, .reg .l => .cbSet2L | .o2, .indHl => .cbSet2IndHl | .o2, .reg .a => .cbSet2A
  | .o3, .reg .b => .cbSet3B | .o3, .reg .c => .cbSet3C | .o3, .reg .d => .cbSet3D | .o3, .reg .e => .cbSet3E | .o3, .reg .h => .cbSet3H | .o3, .reg .l => .cbSet3L | .o3, .indHl => .cbSet3IndHl | .o3, .reg .a => .cbSet3A
  | .o4, .reg .b => .cbSet4B | .o4, .reg .c => .cbSet4C | .o4, .reg .d => .cbSet4D | .o4, .reg .e => .cbSet4E | .o4, .reg .h => .cbSet4H | .o4, .reg .l => .cbSet4L | .o4, .indHl => .cbSet4IndHl | .o4, .reg .a => .cbSet4A
  | .o5, .reg .b => .cbSet5B | .o5, .reg .c => .cbSet5C | .o5, .reg .d => .cbSet5D | .o5, .reg .e => .cbSet5E | .o5, .reg .h => .cbSet5H | .o5, .reg .l => .cbSet5L | .o5, .indHl => .cbSet5IndHl | .o5, .reg .a => .cbSet5A
  | .o6, .reg .b => .cbSet6B | .o6, .reg .c => .cbSet6C | .o6, .reg .d => .cbSet6D | .o6, .reg .e => .cbSet6E | .o6, .reg .h => .cbSet6H | .o6, .reg .l => .cbSet6L | .o6, .indHl => .cbSet6IndHl | .o6, .reg .a => .cbSet6A
  | .o7, .reg .b => .cbSet7B | .o7, .reg .c => .cbSet7C | .o7, .reg .d => .cbSet7D | .o7, .reg .e => .cbSet7E | .o7, .reg .h => .cbSet7H | .o7, .reg .l => .cbSet7L | .o7, .indHl => .cbSet7IndHl | .o7, .reg .a => .cbSet7A

end Sys2Proof
end

