-- ==== Sys2Proof/Machine/Ops.lean ====
section
/-! DEFINITION. The named operations over memory and registers: the bus read and write with all their rules
(20_memory.md section 3), register access, the stack, taking an interrupt and returning from one, and the fatal stop
(60_exceptions.md). -/

namespace Sys2Proof.Machine

/-! ## Registers -/

/-- `x[r]` (R21). -/
def Regs.get (r : Reg8) (g : Regs) : Byte :=
  match r with
  | .b => g.b
  | .c => g.c
  | .d => g.d
  | .e => g.e
  | .h => g.h
  | .l => g.l
  | .a => g.a

/-- `x[r] <- v` (R21). -/
def Regs.set (r : Reg8) (v : Byte) (g : Regs) : Regs :=
  match r with
  | .b => { g with b := v }
  | .c => { g with c := v }
  | .d => { g with d := v }
  | .e => { g with e := v }
  | .h => { g with h := v }
  | .l => { g with l := v }
  | .a => { g with a := v }

/-- `x[BC]` (R22). -/
def Regs.bc (g : Regs) : Word := joinBytes g.b g.c

/-- `x[DE]` (R22). -/
def Regs.de (g : Regs) : Word := joinBytes g.d g.e

/-- `x[HL]` (R22). -/
def Regs.hl (g : Regs) : Word := joinBytes g.h g.l

/-- `x[AF]` (R22). -/
def Regs.af (g : Regs) : Word := joinBytes g.a g.f

/-- `x[HL] <- w` (R22). -/
def Regs.setHl (w : Word) (g : Regs) : Regs := { g with h := hiByte w, l := loByte w }

/-- `x[rr]` (R143). -/
def Regs.getPair (p : Pair) (g : Regs) : Word :=
  match p with
  | .bc => g.bc
  | .de => g.de
  | .hl => g.hl
  | .sp => g.sp

/-- `x[rr] <- w`: a write to a pair writes both halves (R22). -/
def Regs.setPair (p : Pair) (w : Word) (g : Regs) : Regs :=
  match p with
  | .bc => { g with b := hiByte w, c := loByte w }
  | .de => { g with d := hiByte w, e := loByte w }
  | .hl => g.setHl w
  | .sp => { g with sp := w }

/-- `x[qq]` (R143). -/
def Regs.getStackPair (p : StackPair) (g : Regs) : Word :=
  match p with
  | .bc => g.bc
  | .de => g.de
  | .hl => g.hl
  | .af => g.af

/-- `x[qq] <- w`; F keeps its low nibble 0 (R24, R195). -/
def Regs.setStackPair (p : StackPair) (w : Word) (g : Regs) : Regs :=
  match p with
  | .bc => { g with b := hiByte w, c := loByte w }
  | .de => { g with d := hiByte w, e := loByte w }
  | .hl => g.setHl w
  | .af => { g with a := hiByte w, f := loByte w &&& 0xF0 }

/-- The registers replaced. -/
def State.setRegs (s : State) (g : Regs) : State := { s with regs := g }

/-- `x[r]`. -/
def State.reg (s : State) (r : Reg8) : Byte := s.regs.get r

/-- `x[r] <- v`. -/
def State.setReg (s : State) (r : Reg8) (v : Byte) : State := s.setRegs (s.regs.set r v)

/-- `pc <- w`. -/
def State.setPc (s : State) (w : Word) : State := s.setRegs { s.regs with pc := w }

/-- `SP <- w`. -/
def State.setSp (s : State) (w : Word) : State := s.setRegs { s.regs with sp := w }

/-! ## The bus -/

/-- The boot ROM overlays this address (R90). -/
def State.overlayByte (s : State) (n : Nat) : Option Byte :=
  match s.params.bootRom with
  | none => none
  | some rom => if n ≤ 0x00FF ∧ s.peek 0xFF50 = 0x00 then rom[n]? else none

/-- `rom_bank()` (R92). -/
def State.romBank (s : State) : Nat :=
  if s.mbc.mode then s.mbc.bankLo.toNat else s.mbc.bankHi.toNat * 32 + s.mbc.bankLo.toNat

/-- The index in the cartridge image that an address below 0x8000 reads (R91, R92, R93). -/
def State.romIndex (s : State) (n : Nat) : Nat :=
  match s.params.cartKind with
  | .noMapper => n % s.params.romSize
  | .switchable =>
    if n ≤ 0x3FFF then n % s.params.romSize else (s.romBank * 16384 + (n - 0x4000)) % s.params.romSize

/-- The external RAM is accessible (R94, R99). -/
def State.eramOpen (s : State) : Bool :=
  decide (s.params.cartKind = .switchable) && s.mbc.ramEnable && s.mbc.mode && decide (0 < s.params.ramBanks)

/-- The cell of the external RAM that a window address selects (R94, R99). -/
def State.eramIndex (s : State) (n : Nat) : Nat :=
  (s.mbc.bankHi.toNat % s.params.ramBanks) * 8192 + (n - 0xA000)

/-- `eram_read(a)` (R94): 0xFF when not accessible. -/
def State.eramRead (s : State) (n : Nat) : Byte :=
  if s.eramOpen then Memory.read .eram s.eram (s.eramIndex n) else 0xFF

/-- `joyp_read()` (R111). -/
def State.joypRead (s : State) : Byte :=
  let sel := s.peek 0xFF00 &&& 0x30
  let b := s.buttons
  let low (r0 r1 r2 r3 : Bool) : Byte :=
    BitVec.zeroExtend 8 (BitVec.ofBool r3 ++ BitVec.ofBool r2 ++ BitVec.ofBool r1 ++ BitVec.ofBool r0)
  let directions := if bitOf sel 4 then 0 else low b.right b.left b.up b.down
  let actions := if bitOf sel 5 then 0 else low b.a b.b b.select b.start
  0xC0 ||| sel ||| (0x0F &&& ~~~directions &&& ~~~actions)

/-- STAT as read (R60, R462). -/
def State.statRead (s : State) : Byte :=
  (s.peek 0xFF41 &&& 0xF8) ||| (if s.ppu.line = (s.peek 0xFF45).toNat then 0x04 else 0x00) ||| s.ppu.mode.code

/-- LY as read (R62, R461). -/
def State.lyRead (s : State) : Byte := BitVec.ofNat 8 s.ppu.line

/-- The read of an address not under the boot overlay (R88). -/
def State.mapRead (s : State) (n : Nat) : Byte :=
  if n ≤ 0x7FFF then Memory.read .rom s.params.rom (s.romIndex n)
  else if 0xA000 ≤ n ∧ n ≤ 0xBFFF then s.eramRead n
  else if n = 0xFF00 then s.joypRead
  else if n = 0xFF41 then s.statRead
  else if n = 0xFF44 then s.lyRead
  else s.peek n

/-- `MemRead(a, 1)` (R88). -/
def State.memRead (s : State) (a : Word) : Byte := (s.overlayByte a.toNat).getD (s.mapRead a.toNat)

/-- A write below 0x8000 to a switchable-bank cartridge (R95 to R98). -/
def Mbc.write (n : Nat) (v : Byte) (m : Mbc) : Mbc :=
  if n ≤ 0x1FFF then { m with ramEnable := decide (v &&& 0x0F = 0x0A) }
  else if n ≤ 0x3FFF then
    { m with bankLo := if v.extractLsb' 0 5 = 0 then 1 else v.extractLsb' 0 5 }
  else if n ≤ 0x5FFF then { m with bankHi := v.extractLsb' 0 2 }
  else { m with mode := bitOf v 0 }

/-- A write below 0x8000 (R89, R93, R95 to R98). -/
def State.cartWrite (s : State) (n : Nat) (v : Byte) : State :=
  match s.params.cartKind with
  | .noMapper => s
  | .switchable => { s with mbc := s.mbc.write n v }

/-- `eram_write(a, v)` (R99). -/
def State.eramWrite (s : State) (n : Nat) (v : Byte) : State :=
  if s.eramOpen then { s with eram := Memory.write .eram s.eram (s.eramIndex n) v } else s

/-- The store part of a write to the backing store (R89, first half). -/
def State.storeByte (s : State) (n : Nat) (v : Byte) : State :=
  if n = 0xFF00 then s.poke n (v &&& 0x30)
  else if n = 0xFF04 then { s.poke n 0x00 with divCount := 0 }
  else if n = 0xFF41 then s.poke n (v &&& 0xF8)
  else if n = 0xFF44 then s
  else s.poke n v

/-- The first `k` bytes of `oam_dma(v)` (R102), in ascending order. -/
def State.oamCopy (s : State) (v : Byte) (k : Nat) : State :=
  match k with
  | 0 => s
  | k + 1 =>
    let s1 := s.oamCopy v k
    s1.poke (0xFE00 + k) (s1.memRead (joinBytes v 0 + BitVec.ofNat 16 k))

/-- `oam_dma(v)` (R102). -/
def State.oamDma (s : State) (v : Byte) : State := s.oamCopy v 160

/-- The side effects of a write to the backing store, after the store; `old` is the byte before it (R89, second
half). The tile cache and the palette lookups are derived (R37, R38). -/
def State.writeEffects (s : State) (old : Byte) (n : Nat) (v : Byte) : State :=
  if 0xC000 ≤ n ∧ n ≤ 0xDDFF then s.poke (n + 0x2000) v
  else if 0xE000 ≤ n ∧ n ≤ 0xFDFF then s.poke (n - 0x2000) v
  else if n = 0xFF07 then (if field old 0 2 ≠ field v 0 2 then { s with timaCount := 0 } else s)
  else if n = 0xFF14 then (if bitOf v 7 then s.trigger1 else s)
  else if n = 0xFF19 then (if bitOf v 7 then s.trigger2 else s)
  else if n = 0xFF1E then (if bitOf v 7 then s.trigger3 else s)
  else if n = 0xFF23 then (if bitOf v 7 then s.trigger4 else s)
  else if n = 0xFF46 then s.oamDma v
  else s

/-- `MemWrite(a, 1, v)` (R89). -/
def State.memWrite (s : State) (a : Word) (v : Byte) : State :=
  let n := a.toNat
  if n ≤ 0x7FFF then s.cartWrite n v
  else if 0xA000 ≤ n ∧ n ≤ 0xBFFF then s.eramWrite n v
  else (s.storeByte n v).writeEffects (s.peek n) n v

/-- `MemRead(a, 2)` (R84). -/
def State.memRead16 (s : State) (a : Word) : Word := joinBytes (s.memRead (a + 1)) (s.memRead a)

/-- `MemWrite(a, 2, w)`: the low byte first (R84, R191). -/
def State.memWrite16 (s : State) (a w : Word) : State := (s.memWrite a (loByte w)).memWrite (a + 1) (hiByte w)

/-! ## The stack -/

/-- SP decremented, then one byte stored at it (R23). -/
def State.pushByte (s : State) (v : Byte) : State :=
  (s.setSp (s.regs.sp - 1)).memWrite (s.regs.sp - 1) v

/-- `push16(w)`: the high byte first, at the higher address (R193, R327). -/
def State.push16 (s : State) (w : Word) : State := (s.pushByte (hiByte w)).pushByte (loByte w)

/-- The word `pop16()` returns (R194, R329). -/
def State.popValue (s : State) : Word := s.memRead16 s.regs.sp

/-- The state `pop16()` leaves (R194, R329). -/
def State.popped (s : State) : State := s.setSp (s.regs.sp + 2)

/-! ## Interrupts and the fatal stop -/

/-- `IE & IF & 0x1F` (R401). -/
def State.pending (s : State) : Byte := s.peek 0xFFFF &&& s.peek 0xFF0F &&& 0x1F

/-- The source with the lowest set bit (R399). -/
def firstIrq (p : Byte) : Option Irq :=
  if bitOf p 0 then some .vblank
  else if bitOf p 1 then some .lcdStat
  else if bitOf p 2 then some .timer
  else if bitOf p 3 then some .serial
  else if bitOf p 4 then some .joypad
  else none

/-- `enter_interrupt(k)` (R403): the one way an interrupt is taken. -/
def State.enterInterrupt (s : State) (k : Irq) : State :=
  let s1 := s.poke 0xFF0F (s.peek 0xFF0F &&& ~~~k.mask)
  let s2 := { s1 with ime := false, eiDelay := 0 }
  ((s2.push16 s2.regs.pc).setPc k.vector).tick 20

/-- The return from an interrupt (R331, R406). -/
def State.returnFromInterrupt (s : State) : State :=
  { s.popped.setPc s.popValue with ime := true, eiDelay := 0 }

/-- `raise Fatal(opcode, steps)` (R391, R368): the record alone changes. -/
def State.raiseFatal (s : State) (opcode : Byte) : State :=
  { s with fatal := some { opcode := opcode, steps := s.steps } }

end Sys2Proof.Machine
end

