-- ==== Sys2Proof/Machine/Flags.lean ====
section
/-! DEFINITION. The flag register and every flag computation of 41_alu8.md, 42_alu16.md and 43_rotate_shift_bit.md, each as
a pure function of operands and incoming flags. Sums are taken over the naturals and narrowed at the end. -/

namespace Sys2Proof.Machine

/-- The four flags (R24). -/
structure Flags where
  z : Bool
  n : Bool
  h : Bool
  c : Bool
deriving DecidableEq, Repr

/-- F from the flags: Z, N, H, C in bits 7..4, bits 3..0 zero (R24). -/
def Flags.pack (f : Flags) : Byte :=
  BitVec.ofBool f.z ++ BitVec.ofBool f.n ++ BitVec.ofBool f.h ++ BitVec.ofBool f.c ++ (0 : BitVec 4)

/-- The flags in F (R24). -/
def Flags.unpack (f : Byte) : Flags := { z := bitOf f 7, n := bitOf f 6, h := bitOf f 5, c := bitOf f 4 }

/-- The current flags. -/
def State.flags (s : State) : Flags := .unpack s.regs.f

/-- F written (R24: every write stores `v & 0xF0`). -/
def State.setFlags (s : State) (f : Flags) : State := s.setRegs { s.regs with f := f.pack }

/-- A result with the flags it leaves. -/
structure Flagged where
  value : Byte
  flags : Flags
deriving DecidableEq, Repr

/-- `v[3:0]`. -/
def lowNibble (v : Byte) : Nat := v.toNat % 16

/-- 0 or 1. -/
def carryNat (c : Bool) : Nat := if c then 1 else 0

/-- `A + s + c` (R222, R223). -/
def addFlagged (a v : Byte) (c : Bool) : Flagged :=
  let r := a.toNat + v.toNat + carryNat c
  { value := BitVec.ofNat 8 r,
    flags := { z := decide (r % 256 = 0), n := false, h := decide (0xF < lowNibble a + lowNibble v + carryNat c),
               c := decide (0xFF < r) } }

/-- `A - s - c` (R224, R225). -/
def subFlagged (a v : Byte) (c : Bool) : Flagged :=
  let r := a - v - BitVec.ofNat 8 (carryNat c)
  { value := r,
    flags := { z := decide (r = 0), n := true, h := decide (lowNibble a < lowNibble v + carryNat c),
               c := decide (a.toNat < v.toNat + carryNat c) } }

/-- A logic result with its H (R226, R227, R228). -/
def logicFlagged (r : Byte) (h : Bool) : Flagged := { value := r, flags := { z := decide (r = 0), n := false, h := h, c := false } }

/-- The eight ALU operations on A and `s`; CP leaves A (R221 to R229). -/
def aluFlagged (op : AluOp) (a v : Byte) (f : Flags) : Flagged :=
  match op with
  | .add => addFlagged a v false
  | .adc => addFlagged a v f.c
  | .sub => subFlagged a v false
  | .sbc => subFlagged a v f.c
  | .and => logicFlagged (a &&& v) true
  | .xor => logicFlagged (a ^^^ v) false
  | .or => logicFlagged (a ||| v) false
  | .cp => { subFlagged a v false with value := a }

/-- INC of a byte; C unchanged (R230). -/
def incFlagged (v : Byte) (f : Flags) : Flagged :=
  { value := v + 1, flags := { z := decide (v + 1 = 0), n := false, h := decide (lowNibble v = 0xF), c := f.c } }

/-- DEC of a byte; C unchanged (R232). -/
def decFlagged (v : Byte) (f : Flags) : Flagged :=
  { value := v - 1, flags := { z := decide (v - 1 = 0), n := true, h := decide (lowNibble v = 0), c := f.c } }

/-- DAA (R234). -/
def daaFlagged (a : Byte) (f : Flags) : Flagged :=
  let high := f.c || (!f.n && decide (0x99 < a.toNat))
  let low := f.h || (!f.n && decide (9 < lowNibble a))
  let delta : Byte := (if high then 0x60 else 0) + (if low then 0x06 else 0)
  let r := if f.n then a - delta else a + delta
  { value := r, flags := { z := decide (r = 0), n := f.n, h := false, c := high } }

/-- The flags of ADD HL,rr; Z unchanged (R263). -/
def addHlFlags (hl v : Word) (f : Flags) : Flags :=
  { z := f.z, n := false, h := decide (0xFFF < hl.toNat % 4096 + v.toNat % 4096), c := decide (0xFFFF < hl.toNat + v.toNat) }

/-- The flags of ADD SP,e8 and LD HL,SP+e8, from the unsigned immediate byte (R264). -/
def spOffsetFlags (sp : Word) (u : Byte) : Flags :=
  { z := false, n := false, h := decide (0xF < sp.toNat % 16 + lowNibble u), c := decide (0xFF < sp.toNat % 256 + u.toNat) }

/-- The result and carry-out of the eight rotate and shift operations; `c` is the carry in (R286 to R293). -/
def rotated (op : RotOp) (v : Byte) (c : Bool) : Byte × Bool :=
  let bit (b : Bool) : Byte := BitVec.zeroExtend 8 (BitVec.ofBool b)
  match op with
  | .rlc => ((v <<< 1) ||| bit (bitOf v 7), bitOf v 7)
  | .rrc => ((v >>> 1) ||| (bit (bitOf v 0) <<< 7), bitOf v 0)
  | .rl => ((v <<< 1) ||| bit c, bitOf v 7)
  | .rr => ((v >>> 1) ||| (bit c <<< 7), bitOf v 0)
  | .sla => (v <<< 1, bitOf v 7)
  | .sra => ((v >>> 1) ||| (v &&& 0x80), bitOf v 0)
  | .swap => ((v <<< 4) ||| (v >>> 4), false)
  | .srl => (v >>> 1, bitOf v 0)

/-- The CB rotates and shifts with their flags (R286 to R293). -/
def rotFlagged (op : RotOp) (v : Byte) (f : Flags) : Flagged :=
  let r := rotated op v f.c
  { value := r.1, flags := { z := decide (r.1 = 0), n := false, h := false, c := r.2 } }

/-- The accumulator rotates: Z is always 0 (R281 to R284). -/
def rotAFlagged (op : RotOp) (a : Byte) (f : Flags) : Flagged :=
  let r := rotated op a f.c
  { value := r.1, flags := { z := false, n := false, h := false, c := r.2 } }

/-- The flags of BIT b; C unchanged (R294). -/
def bitFlags (b : Octal) (v : Byte) (f : Flags) : Flags := { z := !bitOf v b.toNat, n := false, h := true, c := f.c }

end Sys2Proof.Machine
end

