-- ==== Sys2Proof/Machine/Operands.lean ====
section
/-! DEFINITION. The operand forms: the 8-bit operand `r` with its code 6 (the byte at HL), the high-page and immediate
addresses, the conditions, and what a form costs (R143, R147, R149, R321). -/

namespace Sys2Proof.Machine

/-- Read `r[z]`: a register, or the byte at HL (R143, R221, R285). -/
def State.readOpnd (s : State) (o : Opnd) : Byte :=
  match o with
  | .reg r => s.reg r
  | .indHl => s.memRead s.regs.hl

/-- Write `r[z]`: a register, or the byte at HL (R143, R285). -/
def State.writeOpnd (s : State) (o : Opnd) (v : Byte) : State :=
  match o with
  | .reg r => s.setReg r v
  | .indHl => s.memWrite s.regs.hl v

/-- The cost of a form: `reg` ticks for a register operand, `mem` for the byte at HL (R149). -/
def opndCost (reg mem : Nat) (o : Opnd) : Nat :=
  match o with
  | .reg _ => reg
  | .indHl => mem

/-- `0xFF00 + n` (R147). -/
def highPage (n : Byte) : Word := joinBytes 0xFF n

/-- The condition holds (R321). -/
def condHolds (f : Flags) (cc : Cond) : Bool :=
  match cc with
  | .nz => !f.z
  | .z => f.z
  | .nc => !f.c
  | .c => f.c

/-- The current flags satisfy the condition (R321). -/
def State.cond (s : State) (cc : Cond) : Bool := condHolds s.flags cc

/-- The result of an operation written to A with its flags. -/
def State.setAFlags (s : State) (r : Flagged) : State := s.setRegs { s.regs with a := r.value, f := r.flags.pack }

/-- What an executed instruction answers: its state after its effect, with its cost added (R145, R149). -/
def State.done (s : State) (cost : Nat) : Answer := .next (s.tick cost)

end Sys2Proof.Machine
end

