-- ==== Sys2Proof/Machine/Alu16.lean ====
section
/-! DEFINITION. 16-bit arithmetic instructions (42_alu16.md): the shared operations, then one meaning per row. -/

namespace Sys2Proof.Machine

/-- INC rr: no flag (R261). -/
def incPair (p : Pair) (s : State) : Answer := (s.setRegs (s.regs.setPair p (s.regs.getPair p + 1))).done 8

/-- DEC rr: no flag (R262). -/
def decPair (p : Pair) (s : State) : Answer := (s.setRegs (s.regs.setPair p (s.regs.getPair p - 1))).done 8

/-- ADD HL,rr (R263). -/
def addHlPair (p : Pair) (s : State) : Answer :=
  let v := s.regs.getPair p
  let g := s.regs.setHl (s.regs.hl + v)
  (s.setRegs { g with f := (addHlFlags s.regs.hl v s.flags).pack }).done 8

/-! ## One meaning per row -/

/-- INC BC (R261). -/
def execIncBc (s : State) : Answer :=
  incPair .bc s

/-- ADD HL,BC (R263). -/
def execAddHlBc (s : State) : Answer :=
  addHlPair .bc s

/-- DEC BC (R262). -/
def execDecBc (s : State) : Answer :=
  decPair .bc s

/-- INC DE (R261). -/
def execIncDe (s : State) : Answer :=
  incPair .de s

/-- ADD HL,DE (R263). -/
def execAddHlDe (s : State) : Answer :=
  addHlPair .de s

/-- DEC DE (R262). -/
def execDecDe (s : State) : Answer :=
  decPair .de s

/-- INC HL (R261). -/
def execIncHl (s : State) : Answer :=
  incPair .hl s

/-- ADD HL,HL (R263). -/
def execAddHlHl (s : State) : Answer :=
  addHlPair .hl s

/-- DEC HL (R262). -/
def execDecHl (s : State) : Answer :=
  decPair .hl s

/-- INC SP (R261). -/
def execIncSp (s : State) : Answer :=
  incPair .sp s

/-- ADD HL,SP (R263). -/
def execAddHlSp (s : State) : Answer :=
  addHlPair .sp s

/-- DEC SP (R262). -/
def execDecSp (s : State) : Answer :=
  decPair .sp s

/-- ADD SP,e8 (R264). -/
def execAddSpE8 (e : Byte) (s : State) : Answer :=
  (s.setRegs { s.regs with sp := s.regs.sp + sext16 e, f := (spOffsetFlags s.regs.sp e).pack }).done 16

/-- LD HL,SP+e8 (R265). -/
def execLdHlSpE8 (e : Byte) (s : State) : Answer :=
  (s.setRegs { s.regs.setHl (s.regs.sp + sext16 e) with f := (spOffsetFlags s.regs.sp e).pack }).done 12

end Sys2Proof.Machine
end

