-- ==== Sys2Proof/Machine/Alu8.lean ====
section
/-! DEFINITION. 8-bit arithmetic and logic instructions (41_alu8.md): the shared operations, then one meaning per
row. -/

namespace Sys2Proof.Machine

/-- An ALU operation on A and the operand `r[z]` (R221). -/
def aluOpnd (op : AluOp) (o : Opnd) (s : State) : Answer :=
  (s.setAFlags (aluFlagged op (s.reg .a) (s.readOpnd o) s.flags)).done (opndCost 4 8 o)

/-- An ALU operation on A and an immediate (R221). -/
def aluImm (op : AluOp) (n : Byte) (s : State) : Answer := (s.setAFlags (aluFlagged op (s.reg .a) n s.flags)).done 8

/-- The operand replaced by a result, and the flags by the result's (R230 to R233). -/
def State.updateOpnd (s : State) (o : Opnd) (r : Flagged) : State := (s.writeOpnd o r.value).setFlags r.flags

/-- INC r and INC (HL) (R230, R231). -/
def incOpnd (o : Opnd) (s : State) : Answer :=
  (s.updateOpnd o (incFlagged (s.readOpnd o) s.flags)).done (opndCost 4 12 o)

/-- DEC r and DEC (HL) (R232, R233). -/
def decOpnd (o : Opnd) (s : State) : Answer :=
  (s.updateOpnd o (decFlagged (s.readOpnd o) s.flags)).done (opndCost 4 12 o)

/-! ## One meaning per row -/

/-- INC B (R230). -/
def execIncB (s : State) : Answer :=
  incOpnd (.reg .b) s

/-- DEC B (R232). -/
def execDecB (s : State) : Answer :=
  decOpnd (.reg .b) s

/-- INC C (R230). -/
def execIncC (s : State) : Answer :=
  incOpnd (.reg .c) s

/-- DEC C (R232). -/
def execDecC (s : State) : Answer :=
  decOpnd (.reg .c) s

/-- INC D (R230). -/
def execIncD (s : State) : Answer :=
  incOpnd (.reg .d) s

/-- DEC D (R232). -/
def execDecD (s : State) : Answer :=
  decOpnd (.reg .d) s

/-- INC E (R230). -/
def execIncE (s : State) : Answer :=
  incOpnd (.reg .e) s

/-- DEC E (R232). -/
def execDecE (s : State) : Answer :=
  decOpnd (.reg .e) s

/-- INC H (R230). -/
def execIncH (s : State) : Answer :=
  incOpnd (.reg .h) s

/-- DEC H (R232). -/
def execDecH (s : State) : Answer :=
  decOpnd (.reg .h) s

/-- DAA (R234). -/
def execDaa (s : State) : Answer :=
  (s.setAFlags (daaFlagged (s.reg .a) s.flags)).done 4

/-- INC L (R230). -/
def execIncL (s : State) : Answer :=
  incOpnd (.reg .l) s

/-- DEC L (R232). -/
def execDecL (s : State) : Answer :=
  decOpnd (.reg .l) s

/-- CPL (R235). -/
def execCpl (s : State) : Answer :=
  (s.setAFlags { value := s.reg .a ^^^ 0xFF, flags := { s.flags with n := true, h := true } }).done 4

/-- INC (HL) (R231). -/
def execIncIndHl (s : State) : Answer :=
  incOpnd .indHl s

/-- DEC (HL) (R233). -/
def execDecIndHl (s : State) : Answer :=
  decOpnd .indHl s

/-- SCF (R236). -/
def execScf (s : State) : Answer :=
  (s.setFlags { s.flags with n := false, h := false, c := true }).done 4

/-- INC A (R230). -/
def execIncA (s : State) : Answer :=
  incOpnd (.reg .a) s

/-- DEC A (R232). -/
def execDecA (s : State) : Answer :=
  decOpnd (.reg .a) s

/-- CCF (R237). -/
def execCcf (s : State) : Answer :=
  (s.setFlags { s.flags with n := false, h := false, c := !s.flags.c }).done 4

/-- ADD A,B (R222). -/
def execAddAB (s : State) : Answer :=
  aluOpnd .add (.reg .b) s

/-- ADD A,C (R222). -/
def execAddAC (s : State) : Answer :=
  aluOpnd .add (.reg .c) s

/-- ADD A,D (R222). -/
def execAddAD (s : State) : Answer :=
  aluOpnd .add (.reg .d) s

/-- ADD A,E (R222). -/
def execAddAE (s : State) : Answer :=
  aluOpnd .add (.reg .e) s

/-- ADD A,H (R222). -/
def execAddAH (s : State) : Answer :=
  aluOpnd .add (.reg .h) s

/-- ADD A,L (R222). -/
def execAddAL (s : State) : Answer :=
  aluOpnd .add (.reg .l) s

/-- ADD A,(HL) (R222). -/
def execAddAIndHl (s : State) : Answer :=
  aluOpnd .add .indHl s

/-- ADD A,A (R222). -/
def execAddAA (s : State) : Answer :=
  aluOpnd .add (.reg .a) s

/-- ADC A,B (R223). -/
def execAdcAB (s : State) : Answer :=
  aluOpnd .adc (.reg .b) s

/-- ADC A,C (R223). -/
def execAdcAC (s : State) : Answer :=
  aluOpnd .adc (.reg .c) s

/-- ADC A,D (R223). -/
def execAdcAD (s : State) : Answer :=
  aluOpnd .adc (.reg .d) s

/-- ADC A,E (R223). -/
def execAdcAE (s : State) : Answer :=
  aluOpnd .adc (.reg .e) s

/-- ADC A,H (R223). -/
def execAdcAH (s : State) : Answer :=
  aluOpnd .adc (.reg .h) s

/-- ADC A,L (R223). -/
def execAdcAL (s : State) : Answer :=
  aluOpnd .adc (.reg .l) s

/-- ADC A,(HL) (R223). -/
def execAdcAIndHl (s : State) : Answer :=
  aluOpnd .adc .indHl s

/-- ADC A,A (R223). -/
def execAdcAA (s : State) : Answer :=
  aluOpnd .adc (.reg .a) s

/-- SUB B (R224). -/
def execSubB (s : State) : Answer :=
  aluOpnd .sub (.reg .b) s

/-- SUB C (R224). -/
def execSubC (s : State) : Answer :=
  aluOpnd .sub (.reg .c) s

/-- SUB D (R224). -/
def execSubD (s : State) : Answer :=
  aluOpnd .sub (.reg .d) s

/-- SUB E (R224). -/
def execSubE (s : State) : Answer :=
  aluOpnd .sub (.reg .e) s

/-- SUB H (R224). -/
def execSubH (s : State) : Answer :=
  aluOpnd .sub (.reg .h) s

/-- SUB L (R224). -/
def execSubL (s : State) : Answer :=
  aluOpnd .sub (.reg .l) s

/-- SUB (HL) (R224). -/
def execSubIndHl (s : State) : Answer :=
  aluOpnd .sub .indHl s

/-- SUB A (R224). -/
def execSubA (s : State) : Answer :=
  aluOpnd .sub (.reg .a) s

/-- SBC A,B (R225). -/
def execSbcAB (s : State) : Answer :=
  aluOpnd .sbc (.reg .b) s

/-- SBC A,C (R225). -/
def execSbcAC (s : State) : Answer :=
  aluOpnd .sbc (.reg .c) s

/-- SBC A,D (R225). -/
def execSbcAD (s : State) : Answer :=
  aluOpnd .sbc (.reg .d) s

/-- SBC A,E (R225). -/
def execSbcAE (s : State) : Answer :=
  aluOpnd .sbc (.reg .e) s

/-- SBC A,H (R225). -/
def execSbcAH (s : State) : Answer :=
  aluOpnd .sbc (.reg .h) s

/-- SBC A,L (R225). -/
def execSbcAL (s : State) : Answer :=
  aluOpnd .sbc (.reg .l) s

/-- SBC A,(HL) (R225). -/
def execSbcAIndHl (s : State) : Answer :=
  aluOpnd .sbc .indHl s

/-- SBC A,A (R225). -/
def execSbcAA (s : State) : Answer :=
  aluOpnd .sbc (.reg .a) s

/-- AND B (R226). -/
def execAndB (s : State) : Answer :=
  aluOpnd .and (.reg .b) s

/-- AND C (R226). -/
def execAndC (s : State) : Answer :=
  aluOpnd .and (.reg .c) s

/-- AND D (R226). -/
def execAndD (s : State) : Answer :=
  aluOpnd .and (.reg .d) s

/-- AND E (R226). -/
def execAndE (s : State) : Answer :=
  aluOpnd .and (.reg .e) s

/-- AND H (R226). -/
def execAndH (s : State) : Answer :=
  aluOpnd .and (.reg .h) s

/-- AND L (R226). -/
def execAndL (s : State) : Answer :=
  aluOpnd .and (.reg .l) s

/-- AND (HL) (R226). -/
def execAndIndHl (s : State) : Answer :=
  aluOpnd .and .indHl s

/-- AND A (R226). -/
def execAndA (s : State) : Answer :=
  aluOpnd .and (.reg .a) s

/-- XOR B (R227). -/
def execXorB (s : State) : Answer :=
  aluOpnd .xor (.reg .b) s

/-- XOR C (R227). -/
def execXorC (s : State) : Answer :=
  aluOpnd .xor (.reg .c) s

/-- XOR D (R227). -/
def execXorD (s : State) : Answer :=
  aluOpnd .xor (.reg .d) s

/-- XOR E (R227). -/
def execXorE (s : State) : Answer :=
  aluOpnd .xor (.reg .e) s

/-- XOR H (R227). -/
def execXorH (s : State) : Answer :=
  aluOpnd .xor (.reg .h) s

/-- XOR L (R227). -/
def execXorL (s : State) : Answer :=
  aluOpnd .xor (.reg .l) s

/-- XOR (HL) (R227). -/
def execXorIndHl (s : State) : Answer :=
  aluOpnd .xor .indHl s

/-- XOR A (R227). -/
def execXorA (s : State) : Answer :=
  aluOpnd .xor (.reg .a) s

/-- OR B (R228). -/
def execOrB (s : State) : Answer :=
  aluOpnd .or (.reg .b) s

/-- OR C (R228). -/
def execOrC (s : State) : Answer :=
  aluOpnd .or (.reg .c) s

/-- OR D (R228). -/
def execOrD (s : State) : Answer :=
  aluOpnd .or (.reg .d) s

/-- OR E (R228). -/
def execOrE (s : State) : Answer :=
  aluOpnd .or (.reg .e) s

/-- OR H (R228). -/
def execOrH (s : State) : Answer :=
  aluOpnd .or (.reg .h) s

/-- OR L (R228). -/
def execOrL (s : State) : Answer :=
  aluOpnd .or (.reg .l) s

/-- OR (HL) (R228). -/
def execOrIndHl (s : State) : Answer :=
  aluOpnd .or .indHl s

/-- OR A (R228). -/
def execOrA (s : State) : Answer :=
  aluOpnd .or (.reg .a) s

/-- CP B (R229). -/
def execCpB (s : State) : Answer :=
  aluOpnd .cp (.reg .b) s

/-- CP C (R229). -/
def execCpC (s : State) : Answer :=
  aluOpnd .cp (.reg .c) s

/-- CP D (R229). -/
def execCpD (s : State) : Answer :=
  aluOpnd .cp (.reg .d) s

/-- CP E (R229). -/
def execCpE (s : State) : Answer :=
  aluOpnd .cp (.reg .e) s

/-- CP H (R229). -/
def execCpH (s : State) : Answer :=
  aluOpnd .cp (.reg .h) s

/-- CP L (R229). -/
def execCpL (s : State) : Answer :=
  aluOpnd .cp (.reg .l) s

/-- CP (HL) (R229). -/
def execCpIndHl (s : State) : Answer :=
  aluOpnd .cp .indHl s

/-- CP A (R229). -/
def execCpA (s : State) : Answer :=
  aluOpnd .cp (.reg .a) s

/-- ADD A,d8 (R222). -/
def execAddAD8 (n : Byte) (s : State) : Answer :=
  aluImm .add n s

/-- ADC A,d8 (R223). -/
def execAdcAD8 (n : Byte) (s : State) : Answer :=
  aluImm .adc n s

/-- SUB d8 (R224). -/
def execSubD8 (n : Byte) (s : State) : Answer :=
  aluImm .sub n s

/-- SBC A,d8 (R225). -/
def execSbcAD8 (n : Byte) (s : State) : Answer :=
  aluImm .sbc n s

/-- AND d8 (R226). -/
def execAndD8 (n : Byte) (s : State) : Answer :=
  aluImm .and n s

/-- XOR d8 (R227). -/
def execXorD8 (n : Byte) (s : State) : Answer :=
  aluImm .xor n s

/-- OR d8 (R228). -/
def execOrD8 (n : Byte) (s : State) : Answer :=
  aluImm .or n s

/-- CP d8 (R229). -/
def execCpD8 (n : Byte) (s : State) : Answer :=
  aluImm .cp n s

end Sys2Proof.Machine
end

