-- ==== Sys2Proof/Machine/Control.lean ====
section
/-! DEFINITION. Control-transfer instructions (44_control.md): the shared operations, then one meaning per row. PC already
addresses the next instruction (R146). No instruction here writes a flag; a false condition costs the base cost and
changes nothing else (R321). -/

namespace Sys2Proof.Machine

/-- JP cc,a16 (R323). -/
def jumpCond (cc : Cond) (w : Word) (s : State) : Answer := if s.cond cc then (s.setPc w).done 16 else s.done 12

/-- JR cc,e8 (R326). -/
def jumpRelCond (cc : Cond) (e : Byte) (s : State) : Answer :=
  if s.cond cc then (s.setPc (s.regs.pc + sext16 e)).done 12 else s.done 8

/-- The return address pushed, then PC set to the target (R327, R332). -/
def State.callTo (s : State) (w : Word) : State := (s.push16 s.regs.pc).setPc w

/-- CALL cc,a16 (R328). -/
def callCond (cc : Cond) (w : Word) (s : State) : Answer := if s.cond cc then (s.callTo w).done 24 else s.done 12

/-- PC popped (R329). -/
def State.returned (s : State) : State := s.popped.setPc s.popValue

/-- RET cc (R330). -/
def retCond (cc : Cond) (s : State) : Answer := if s.cond cc then s.returned.done 20 else s.done 8

/-- RST t (R332): the target is 8 times the field. -/
def restart (y : Octal) (s : State) : Answer := (s.callTo (BitVec.ofNat 16 (8 * y.toNat))).done 16

/-! ## One meaning per row -/

/-- JR e8 (R325). -/
def execJrE8 (e : Byte) (s : State) : Answer :=
  (s.setPc (s.regs.pc + sext16 e)).done 12

/-- JR NZ,e8 (R326). -/
def execJrNzE8 (e : Byte) (s : State) : Answer :=
  jumpRelCond .nz e s

/-- JR Z,e8 (R326). -/
def execJrZE8 (e : Byte) (s : State) : Answer :=
  jumpRelCond .z e s

/-- JR NC,e8 (R326). -/
def execJrNcE8 (e : Byte) (s : State) : Answer :=
  jumpRelCond .nc e s

/-- JR C,e8 (R326). -/
def execJrCE8 (e : Byte) (s : State) : Answer :=
  jumpRelCond .c e s

/-- RET NZ (R330). -/
def execRetNz (s : State) : Answer :=
  retCond .nz s

/-- JP NZ,a16 (R323). -/
def execJpNzA16 (w : Word) (s : State) : Answer :=
  jumpCond .nz w s

/-- JP a16 (R322). -/
def execJpA16 (w : Word) (s : State) : Answer :=
  (s.setPc w).done 16

/-- CALL NZ,a16 (R328). -/
def execCallNzA16 (w : Word) (s : State) : Answer :=
  callCond .nz w s

/-- RST 00H (R332). -/
def execRst00 (s : State) : Answer :=
  restart .o0 s

/-- RET Z (R330). -/
def execRetZ (s : State) : Answer :=
  retCond .z s

/-- RET (R329). -/
def execRet (s : State) : Answer :=
  s.returned.done 16

/-- JP Z,a16 (R323). -/
def execJpZA16 (w : Word) (s : State) : Answer :=
  jumpCond .z w s

/-- CALL Z,a16 (R328). -/
def execCallZA16 (w : Word) (s : State) : Answer :=
  callCond .z w s

/-- CALL a16 (R327). -/
def execCallA16 (w : Word) (s : State) : Answer :=
  (s.callTo w).done 24

/-- RST 08H (R332). -/
def execRst08 (s : State) : Answer :=
  restart .o1 s

/-- RET NC (R330). -/
def execRetNc (s : State) : Answer :=
  retCond .nc s

/-- JP NC,a16 (R323). -/
def execJpNcA16 (w : Word) (s : State) : Answer :=
  jumpCond .nc w s

/-- CALL NC,a16 (R328). -/
def execCallNcA16 (w : Word) (s : State) : Answer :=
  callCond .nc w s

/-- RST 10H (R332). -/
def execRst10 (s : State) : Answer :=
  restart .o2 s

/-- RET C (R330). -/
def execRetC (s : State) : Answer :=
  retCond .c s

/-- RETI (R331). -/
def execReti (s : State) : Answer :=
  s.returnFromInterrupt.done 16

/-- JP C,a16 (R323). -/
def execJpCA16 (w : Word) (s : State) : Answer :=
  jumpCond .c w s

/-- CALL C,a16 (R328). -/
def execCallCA16 (w : Word) (s : State) : Answer :=
  callCond .c w s

/-- RST 18H (R332). -/
def execRst18 (s : State) : Answer :=
  restart .o3 s

/-- RST 20H (R332). -/
def execRst20 (s : State) : Answer :=
  restart .o4 s

/-- JP HL (R324). -/
def execJpHl (s : State) : Answer :=
  (s.setPc s.regs.hl).done 4

/-- RST 28H (R332). -/
def execRst28 (s : State) : Answer :=
  restart .o5 s

/-- RST 30H (R332). -/
def execRst30 (s : State) : Answer :=
  restart .o6 s

/-- RST 38H (R332). -/
def execRst38 (s : State) : Answer :=
  restart .o7 s

end Sys2Proof.Machine
end

