-- ==== Sys2Proof/Machine/Load.lean ====
section
/-! DEFINITION. Load, store and stack instructions (40_load.md): the shared operations, then one meaning per row. No
instruction here writes a flag but POP AF (R180). PC already addresses the byte after the instruction (R146). -/

namespace Sys2Proof.Machine

/-- LD r,r' (R171). -/
def loadRegReg (dst src : Reg8) (s : State) : Answer := (s.setReg dst (s.reg src)).done 4

/-- LD r,(HL) (R172). -/
def loadRegInd (dst : Reg8) (s : State) : Answer := (s.setReg dst (s.memRead s.regs.hl)).done 8

/-- LD (HL),r (R173). -/
def storeIndReg (src : Reg8) (s : State) : Answer := (s.memWrite s.regs.hl (s.reg src)).done 8

/-- LD r,d8 (R174). -/
def loadRegImm (dst : Reg8) (n : Byte) (s : State) : Answer := (s.setReg dst n).done 8

/-- A load of A from an address (R176, R178, R181, R183). -/
def loadA (a : Word) (cost : Nat) (s : State) : Answer := (s.setReg .a (s.memRead a)).done cost

/-- A store of A to an address (R177, R179, R182, R184). -/
def storeA (a : Word) (cost : Nat) (s : State) : Answer := (s.memWrite a (s.reg .a)).done cost

/-- A load of A from HL, then HL set to HL + `step` (R185, R186). -/
def loadAStep (step : Word) (s : State) : Answer :=
  (s.setRegs ((s.regs.set .a (s.memRead s.regs.hl)).setHl (s.regs.hl + step))).done 8

/-- A store of A to HL, then HL set to HL + `step` (R187, R188). -/
def storeAStep (step : Word) (s : State) : Answer :=
  let s1 := s.memWrite s.regs.hl (s.reg .a)
  (s1.setRegs (s1.regs.setHl (s.regs.hl + step))).done 8

/-- LD rr,d16 (R190). -/
def loadPairImm (p : Pair) (w : Word) (s : State) : Answer := (s.setRegs (s.regs.setPair p w)).done 12

/-- PUSH qq (R193). -/
def pushPair (p : StackPair) (s : State) : Answer := (s.push16 (s.regs.getStackPair p)).done 16

/-- POP qq (R194, R195). -/
def popPair (p : StackPair) (s : State) : Answer :=
  (s.popped.setRegs (s.popped.regs.setStackPair p s.popValue)).done 12

/-! ## One meaning per row -/

/-- LD BC,d16 (R190). -/
def execLdBcD16 (w : Word) (s : State) : Answer :=
  loadPairImm .bc w s

/-- LD (BC),A (R177). -/
def execLdIndBcA (s : State) : Answer :=
  storeA s.regs.bc 8 s

/-- LD B,d8 (R174). -/
def execLdBD8 (n : Byte) (s : State) : Answer :=
  loadRegImm .b n s

/-- LD (a16),SP (R191). -/
def execLdIndA16Sp (w : Word) (s : State) : Answer :=
  (s.memWrite16 w s.regs.sp).done 20

/-- LD A,(BC) (R176). -/
def execLdAIndBc (s : State) : Answer :=
  loadA s.regs.bc 8 s

/-- LD C,d8 (R174). -/
def execLdCD8 (n : Byte) (s : State) : Answer :=
  loadRegImm .c n s

/-- LD DE,d16 (R190). -/
def execLdDeD16 (w : Word) (s : State) : Answer :=
  loadPairImm .de w s

/-- LD (DE),A (R177). -/
def execLdIndDeA (s : State) : Answer :=
  storeA s.regs.de 8 s

/-- LD D,d8 (R174). -/
def execLdDD8 (n : Byte) (s : State) : Answer :=
  loadRegImm .d n s

/-- LD A,(DE) (R176). -/
def execLdAIndDe (s : State) : Answer :=
  loadA s.regs.de 8 s

/-- LD E,d8 (R174). -/
def execLdED8 (n : Byte) (s : State) : Answer :=
  loadRegImm .e n s

/-- LD HL,d16 (R190). -/
def execLdHlD16 (w : Word) (s : State) : Answer :=
  loadPairImm .hl w s

/-- LD (HL+),A (R187). -/
def execLdIndHlIncA (s : State) : Answer :=
  storeAStep 1 s

/-- LD H,d8 (R174). -/
def execLdHD8 (n : Byte) (s : State) : Answer :=
  loadRegImm .h n s

/-- LD A,(HL+) (R185). -/
def execLdAIndHlInc (s : State) : Answer :=
  loadAStep 1 s

/-- LD L,d8 (R174). -/
def execLdLD8 (n : Byte) (s : State) : Answer :=
  loadRegImm .l n s

/-- LD SP,d16 (R190). -/
def execLdSpD16 (w : Word) (s : State) : Answer :=
  loadPairImm .sp w s

/-- LD (HL-),A (R188). -/
def execLdIndHlDecA (s : State) : Answer :=
  storeAStep (-1) s

/-- LD (HL),d8 (R175). -/
def execLdIndHlD8 (n : Byte) (s : State) : Answer :=
  (s.memWrite s.regs.hl n).done 12

/-- LD A,(HL-) (R186). -/
def execLdAIndHlDec (s : State) : Answer :=
  loadAStep (-1) s

/-- LD A,d8 (R174). -/
def execLdAD8 (n : Byte) (s : State) : Answer :=
  loadRegImm .a n s

/-- LD B,B (R171). -/
def execLdBB (s : State) : Answer :=
  loadRegReg .b .b s

/-- LD B,C (R171). -/
def execLdBC (s : State) : Answer :=
  loadRegReg .b .c s

/-- LD B,D (R171). -/
def execLdBD (s : State) : Answer :=
  loadRegReg .b .d s

/-- LD B,E (R171). -/
def execLdBE (s : State) : Answer :=
  loadRegReg .b .e s

/-- LD B,H (R171). -/
def execLdBH (s : State) : Answer :=
  loadRegReg .b .h s

/-- LD B,L (R171). -/
def execLdBL (s : State) : Answer :=
  loadRegReg .b .l s

/-- LD B,(HL) (R172). -/
def execLdBIndHl (s : State) : Answer :=
  loadRegInd .b s

/-- LD B,A (R171). -/
def execLdBA (s : State) : Answer :=
  loadRegReg .b .a s

/-- LD C,B (R171). -/
def execLdCB (s : State) : Answer :=
  loadRegReg .c .b s

/-- LD C,C (R171). -/
def execLdCC (s : State) : Answer :=
  loadRegReg .c .c s

/-- LD C,D (R171). -/
def execLdCD (s : State) : Answer :=
  loadRegReg .c .d s

/-- LD C,E (R171). -/
def execLdCE (s : State) : Answer :=
  loadRegReg .c .e s

/-- LD C,H (R171). -/
def execLdCH (s : State) : Answer :=
  loadRegReg .c .h s

/-- LD C,L (R171). -/
def execLdCL (s : State) : Answer :=
  loadRegReg .c .l s

/-- LD C,(HL) (R172). -/
def execLdCIndHl (s : State) : Answer :=
  loadRegInd .c s

/-- LD C,A (R171). -/
def execLdCA (s : State) : Answer :=
  loadRegReg .c .a s

/-- LD D,B (R171). -/
def execLdDB (s : State) : Answer :=
  loadRegReg .d .b s

/-- LD D,C (R171). -/
def execLdDC (s : State) : Answer :=
  loadRegReg .d .c s

/-- LD D,D (R171). -/
def execLdDD (s : State) : Answer :=
  loadRegReg .d .d s

/-- LD D,E (R171). -/
def execLdDE (s : State) : Answer :=
  loadRegReg .d .e s

/-- LD D,H (R171). -/
def execLdDH (s : State) : Answer :=
  loadRegReg .d .h s

/-- LD D,L (R171). -/
def execLdDL (s : State) : Answer :=
  loadRegReg .d .l s

/-- LD D,(HL) (R172). -/
def execLdDIndHl (s : State) : Answer :=
  loadRegInd .d s

/-- LD D,A (R171). -/
def execLdDA (s : State) : Answer :=
  loadRegReg .d .a s

/-- LD E,B (R171). -/
def execLdEB (s : State) : Answer :=
  loadRegReg .e .b s

/-- LD E,C (R171). -/
def execLdEC (s : State) : Answer :=
  loadRegReg .e .c s

/-- LD E,D (R171). -/
def execLdED (s : State) : Answer :=
  loadRegReg .e .d s

/-- LD E,E (R171). -/
def execLdEE (s : State) : Answer :=
  loadRegReg .e .e s

/-- LD E,H (R171). -/
def execLdEH (s : State) : Answer :=
  loadRegReg .e .h s

/-- LD E,L (R171). -/
def execLdEL (s : State) : Answer :=
  loadRegReg .e .l s

/-- LD E,(HL) (R172). -/
def execLdEIndHl (s : State) : Answer :=
  loadRegInd .e s

/-- LD E,A (R171). -/
def execLdEA (s : State) : Answer :=
  loadRegReg .e .a s

/-- LD H,B (R171). -/
def execLdHB (s : State) : Answer :=
  loadRegReg .h .b s

/-- LD H,C (R171). -/
def execLdHC (s : State) : Answer :=
  loadRegReg .h .c s

/-- LD H,D (R171). -/
def execLdHD (s : State) : Answer :=
  loadRegReg .h .d s

/-- LD H,E (R171). -/
def execLdHE (s : State) : Answer :=
  loadRegReg .h .e s

/-- LD H,H (R171). -/
def execLdHH (s : State) : Answer :=
  loadRegReg .h .h s

/-- LD H,L (R171). -/
def execLdHL (s : State) : Answer :=
  loadRegReg .h .l s

/-- LD H,(HL) (R172). -/
def execLdHIndHl (s : State) : Answer :=
  loadRegInd .h s

/-- LD H,A (R171). -/
def execLdHA (s : State) : Answer :=
  loadRegReg .h .a s

/-- LD L,B (R171). -/
def execLdLB (s : State) : Answer :=
  loadRegReg .l .b s

/-- LD L,C (R171). -/
def execLdLC (s : State) : Answer :=
  loadRegReg .l .c s

/-- LD L,D (R171). -/
def execLdLD (s : State) : Answer :=
  loadRegReg .l .d s

/-- LD L,E (R171). -/
def execLdLE (s : State) : Answer :=
  loadRegReg .l .e s

/-- LD L,H (R171). -/
def execLdLH (s : State) : Answer :=
  loadRegReg .l .h s

/-- LD L,L (R171). -/
def execLdLL (s : State) : Answer :=
  loadRegReg .l .l s

/-- LD L,(HL) (R172). -/
def execLdLIndHl (s : State) : Answer :=
  loadRegInd .l s

/-- LD L,A (R171). -/
def execLdLA (s : State) : Answer :=
  loadRegReg .l .a s

/-- LD (HL),B (R173). -/
def execLdIndHlB (s : State) : Answer :=
  storeIndReg .b s

/-- LD (HL),C (R173). -/
def execLdIndHlC (s : State) : Answer :=
  storeIndReg .c s

/-- LD (HL),D (R173). -/
def execLdIndHlD (s : State) : Answer :=
  storeIndReg .d s

/-- LD (HL),E (R173). -/
def execLdIndHlE (s : State) : Answer :=
  storeIndReg .e s

/-- LD (HL),H (R173). -/
def execLdIndHlH (s : State) : Answer :=
  storeIndReg .h s

/-- LD (HL),L (R173). -/
def execLdIndHlL (s : State) : Answer :=
  storeIndReg .l s

/-- LD (HL),A (R173). -/
def execLdIndHlA (s : State) : Answer :=
  storeIndReg .a s

/-- LD A,B (R171). -/
def execLdAB (s : State) : Answer :=
  loadRegReg .a .b s

/-- LD A,C (R171). -/
def execLdAC (s : State) : Answer :=
  loadRegReg .a .c s

/-- LD A,D (R171). -/
def execLdAD (s : State) : Answer :=
  loadRegReg .a .d s

/-- LD A,E (R171). -/
def execLdAE (s : State) : Answer :=
  loadRegReg .a .e s

/-- LD A,H (R171). -/
def execLdAH (s : State) : Answer :=
  loadRegReg .a .h s

/-- LD A,L (R171). -/
def execLdAL (s : State) : Answer :=
  loadRegReg .a .l s

/-- LD A,(HL) (R172). -/
def execLdAIndHl (s : State) : Answer :=
  loadRegInd .a s

/-- LD A,A (R171). -/
def execLdAA (s : State) : Answer :=
  loadRegReg .a .a s

/-- POP BC (R194). -/
def execPopBc (s : State) : Answer :=
  popPair .bc s

/-- PUSH BC (R193). -/
def execPushBc (s : State) : Answer :=
  pushPair .bc s

/-- POP DE (R194). -/
def execPopDe (s : State) : Answer :=
  popPair .de s

/-- PUSH DE (R193). -/
def execPushDe (s : State) : Answer :=
  pushPair .de s

/-- LDH (a8),A (R182). -/
def execLdhIndA8A (n : Byte) (s : State) : Answer :=
  storeA (highPage n) 12 s

/-- POP HL (R194). -/
def execPopHl (s : State) : Answer :=
  popPair .hl s

/-- LD (C),A (R184). -/
def execLdIndCA (s : State) : Answer :=
  storeA (highPage (s.reg .c)) 8 s

/-- PUSH HL (R193). -/
def execPushHl (s : State) : Answer :=
  pushPair .hl s

/-- LD (a16),A (R179). -/
def execLdIndA16A (w : Word) (s : State) : Answer :=
  storeA w 16 s

/-- LDH A,(a8) (R181). -/
def execLdhAIndA8 (n : Byte) (s : State) : Answer :=
  loadA (highPage n) 12 s

/-- POP AF (R195). -/
def execPopAf (s : State) : Answer :=
  popPair .af s

/-- LD A,(C) (R183). -/
def execLdAIndC (s : State) : Answer :=
  loadA (highPage (s.reg .c)) 8 s

/-- PUSH AF (R193). -/
def execPushAf (s : State) : Answer :=
  pushPair .af s

/-- LD SP,HL (R192). -/
def execLdSpHl (s : State) : Answer :=
  (s.setSp s.regs.hl).done 8

/-- LD A,(a16) (R178). -/
def execLdAIndA16 (w : Word) (s : State) : Answer :=
  loadA w 16 s

end Sys2Proof.Machine
end

