-- ==== Sys2Proof/Machine/Rotate.lean ====
section
/-! DEFINITION. Rotate, shift and bit instructions (43_rotate_shift_bit.md): the shared operations, then one meaning per
row. -/

namespace Sys2Proof.Machine

/-- RLCA, RRCA, RLA, RRA (R281 to R284). -/
def rotA (op : RotOp) (s : State) : Answer := (s.setAFlags (rotAFlagged op (s.reg .a) s.flags)).done 4

/-- A CB rotate or shift of `r[z]` (R285 to R293). -/
def rotOpnd (op : RotOp) (o : Opnd) (s : State) : Answer :=
  let r := rotFlagged op (s.readOpnd o) s.flags
  ((s.writeOpnd o r.value).setFlags r.flags).done (opndCost 8 16 o)

/-- BIT b,r (R294): one read and no write. -/
def bitOpnd (b : Octal) (o : Opnd) (s : State) : Answer :=
  (s.setFlags (bitFlags b (s.readOpnd o) s.flags)).done (opndCost 8 12 o)

/-- `1 << b`. -/
def bitMask (b : Octal) : Byte := 1 <<< b.toNat

/-- RES b,r (R295): a read and a write, no flag. -/
def resOpnd (b : Octal) (o : Opnd) (s : State) : Answer :=
  (s.writeOpnd o (s.readOpnd o &&& ~~~(bitMask b))).done (opndCost 8 16 o)

/-- SET b,r (R296): a read and a write, no flag. -/
def setOpnd (b : Octal) (o : Opnd) (s : State) : Answer :=
  (s.writeOpnd o (s.readOpnd o ||| bitMask b)).done (opndCost 8 16 o)

/-! ## One meaning per row -/

/-- RLCA (R281). -/
def execRlca (s : State) : Answer :=
  rotA .rlc s

/-- RRCA (R282). -/
def execRrca (s : State) : Answer :=
  rotA .rrc s

/-- RLA (R283). -/
def execRla (s : State) : Answer :=
  rotA .rl s

/-- RRA (R284). -/
def execRra (s : State) : Answer :=
  rotA .rr s

/-- RLC B (R286). -/
def execCbRlcB (s : State) : Answer :=
  rotOpnd .rlc (.reg .b) s

/-- RLC C (R286). -/
def execCbRlcC (s : State) : Answer :=
  rotOpnd .rlc (.reg .c) s

/-- RLC D (R286). -/
def execCbRlcD (s : State) : Answer :=
  rotOpnd .rlc (.reg .d) s

/-- RLC E (R286). -/
def execCbRlcE (s : State) : Answer :=
  rotOpnd .rlc (.reg .e) s

/-- RLC H (R286). -/
def execCbRlcH (s : State) : Answer :=
  rotOpnd .rlc (.reg .h) s

/-- RLC L (R286). -/
def execCbRlcL (s : State) : Answer :=
  rotOpnd .rlc (.reg .l) s

/-- RLC (HL) (R286). -/
def execCbRlcIndHl (s : State) : Answer :=
  rotOpnd .rlc .indHl s

/-- RLC A (R286). -/
def execCbRlcA (s : State) : Answer :=
  rotOpnd .rlc (.reg .a) s

/-- RRC B (R287). -/
def execCbRrcB (s : State) : Answer :=
  rotOpnd .rrc (.reg .b) s

/-- RRC C (R287). -/
def execCbRrcC (s : State) : Answer :=
  rotOpnd .rrc (.reg .c) s

/-- RRC D (R287). -/
def execCbRrcD (s : State) : Answer :=
  rotOpnd .rrc (.reg .d) s

/-- RRC E (R287). -/
def execCbRrcE (s : State) : Answer :=
  rotOpnd .rrc (.reg .e) s

/-- RRC H (R287). -/
def execCbRrcH (s : State) : Answer :=
  rotOpnd .rrc (.reg .h) s

/-- RRC L (R287). -/
def execCbRrcL (s : State) : Answer :=
  rotOpnd .rrc (.reg .l) s

/-- RRC (HL) (R287). -/
def execCbRrcIndHl (s : State) : Answer :=
  rotOpnd .rrc .indHl s

/-- RRC A (R287). -/
def execCbRrcA (s : State) : Answer :=
  rotOpnd .rrc (.reg .a) s

/-- RL B (R288). -/
def execCbRlB (s : State) : Answer :=
  rotOpnd .rl (.reg .b) s

/-- RL C (R288). -/
def execCbRlC (s : State) : Answer :=
  rotOpnd .rl (.reg .c) s

/-- RL D (R288). -/
def execCbRlD (s : State) : Answer :=
  rotOpnd .rl (.reg .d) s

/-- RL E (R288). -/
def execCbRlE (s : State) : Answer :=
  rotOpnd .rl (.reg .e) s

/-- RL H (R288). -/
def execCbRlH (s : State) : Answer :=
  rotOpnd .rl (.reg .h) s

/-- RL L (R288). -/
def execCbRlL (s : State) : Answer :=
  rotOpnd .rl (.reg .l) s

/-- RL (HL) (R288). -/
def execCbRlIndHl (s : State) : Answer :=
  rotOpnd .rl .indHl s

/-- RL A (R288). -/
def execCbRlA (s : State) : Answer :=
  rotOpnd .rl (.reg .a) s

/-- RR B (R289). -/
def execCbRrB (s : State) : Answer :=
  rotOpnd .rr (.reg .b) s

/-- RR C (R289). -/
def execCbRrC (s : State) : Answer :=
  rotOpnd .rr (.reg .c) s

/-- RR D (R289). -/
def execCbRrD (s : State) : Answer :=
  rotOpnd .rr (.reg .d) s

/-- RR E (R289). -/
def execCbRrE (s : State) : Answer :=
  rotOpnd .rr (.reg .e) s

/-- RR H (R289). -/
def execCbRrH (s : State) : Answer :=
  rotOpnd .rr (.reg .h) s

/-- RR L (R289). -/
def execCbRrL (s : State) : Answer :=
  rotOpnd .rr (.reg .l) s

/-- RR (HL) (R289). -/
def execCbRrIndHl (s : State) : Answer :=
  rotOpnd .rr .indHl s

/-- RR A (R289). -/
def execCbRrA (s : State) : Answer :=
  rotOpnd .rr (.reg .a) s

/-- SLA B (R290). -/
def execCbSlaB (s : State) : Answer :=
  rotOpnd .sla (.reg .b) s

/-- SLA C (R290). -/
def execCbSlaC (s : State) : Answer :=
  rotOpnd .sla (.reg .c) s

/-- SLA D (R290). -/
def execCbSlaD (s : State) : Answer :=
  rotOpnd .sla (.reg .d) s

/-- SLA E (R290). -/
def execCbSlaE (s : State) : Answer :=
  rotOpnd .sla (.reg .e) s

/-- SLA H (R290). -/
def execCbSlaH (s : State) : Answer :=
  rotOpnd .sla (.reg .h) s

/-- SLA L (R290). -/
def execCbSlaL (s : State) : Answer :=
  rotOpnd .sla (.reg .l) s

/-- SLA (HL) (R290). -/
def execCbSlaIndHl (s : State) : Answer :=
  rotOpnd .sla .indHl s

/-- SLA A (R290). -/
def execCbSlaA (s : State) : Answer :=
  rotOpnd .sla (.reg .a) s

/-- SRA B (R291). -/
def execCbSraB (s : State) : Answer :=
  rotOpnd .sra (.reg .b) s

/-- SRA C (R291). -/
def execCbSraC (s : State) : Answer :=
  rotOpnd .sra (.reg .c) s

/-- SRA D (R291). -/
def execCbSraD (s : State) : Answer :=
  rotOpnd .sra (.reg .d) s

/-- SRA E (R291). -/
def execCbSraE (s : State) : Answer :=
  rotOpnd .sra (.reg .e) s

/-- SRA H (R291). -/
def execCbSraH (s : State) : Answer :=
  rotOpnd .sra (.reg .h) s

/-- SRA L (R291). -/
def execCbSraL (s : State) : Answer :=
  rotOpnd .sra (.reg .l) s

/-- SRA (HL) (R291). -/
def execCbSraIndHl (s : State) : Answer :=
  rotOpnd .sra .indHl s

/-- SRA A (R291). -/
def execCbSraA (s : State) : Answer :=
  rotOpnd .sra (.reg .a) s

/-- SWAP B (R292). -/
def execCbSwapB (s : State) : Answer :=
  rotOpnd .swap (.reg .b) s

/-- SWAP C (R292). -/
def execCbSwapC (s : State) : Answer :=
  rotOpnd .swap (.reg .c) s

/-- SWAP D (R292). -/
def execCbSwapD (s : State) : Answer :=
  rotOpnd .swap (.reg .d) s

/-- SWAP E (R292). -/
def execCbSwapE (s : State) : Answer :=
  rotOpnd .swap (.reg .e) s

/-- SWAP H (R292). -/
def execCbSwapH (s : State) : Answer :=
  rotOpnd .swap (.reg .h) s

/-- SWAP L (R292). -/
def execCbSwapL (s : State) : Answer :=
  rotOpnd .swap (.reg .l) s

/-- SWAP (HL) (R292). -/
def execCbSwapIndHl (s : State) : Answer :=
  rotOpnd .swap .indHl s

/-- SWAP A (R292). -/
def execCbSwapA (s : State) : Answer :=
  rotOpnd .swap (.reg .a) s

/-- SRL B (R293). -/
def execCbSrlB (s : State) : Answer :=
  rotOpnd .srl (.reg .b) s

/-- SRL C (R293). -/
def execCbSrlC (s : State) : Answer :=
  rotOpnd .srl (.reg .c) s

/-- SRL D (R293). -/
def execCbSrlD (s : State) : Answer :=
  rotOpnd .srl (.reg .d) s

/-- SRL E (R293). -/
def execCbSrlE (s : State) : Answer :=
  rotOpnd .srl (.reg .e) s

/-- SRL H (R293). -/
def execCbSrlH (s : State) : Answer :=
  rotOpnd .srl (.reg .h) s

/-- SRL L (R293). -/
def execCbSrlL (s : State) : Answer :=
  rotOpnd .srl (.reg .l) s

/-- SRL (HL) (R293). -/
def execCbSrlIndHl (s : State) : Answer :=
  rotOpnd .srl .indHl s

/-- SRL A (R293). -/
def execCbSrlA (s : State) : Answer :=
  rotOpnd .srl (.reg .a) s

/-- BIT 0,B (R294). -/
def execCbBit0B (s : State) : Answer :=
  bitOpnd .o0 (.reg .b) s

/-- BIT 0,C (R294). -/
def execCbBit0C (s : State) : Answer :=
  bitOpnd .o0 (.reg .c) s

/-- BIT 0,D (R294). -/
def execCbBit0D (s : State) : Answer :=
  bitOpnd .o0 (.reg .d) s

/-- BIT 0,E (R294). -/
def execCbBit0E (s : State) : Answer :=
  bitOpnd .o0 (.reg .e) s

/-- BIT 0,H (R294). -/
def execCbBit0H (s : State) : Answer :=
  bitOpnd .o0 (.reg .h) s

/-- BIT 0,L (R294). -/
def execCbBit0L (s : State) : Answer :=
  bitOpnd .o0 (.reg .l) s

/-- BIT 0,(HL) (R294). -/
def execCbBit0IndHl (s : State) : Answer :=
  bitOpnd .o0 .indHl s

/-- BIT 0,A (R294). -/
def execCbBit0A (s : State) : Answer :=
  bitOpnd .o0 (.reg .a) s

/-- BIT 1,B (R294). -/
def execCbBit1B (s : State) : Answer :=
  bitOpnd .o1 (.reg .b) s

/-- BIT 1,C (R294). -/
def execCbBit1C (s : State) : Answer :=
  bitOpnd .o1 (.reg .c) s

/-- BIT 1,D (R294). -/
def execCbBit1D (s : State) : Answer :=
  bitOpnd .o1 (.reg .d) s

/-- BIT 1,E (R294). -/
def execCbBit1E (s : State) : Answer :=
  bitOpnd .o1 (.reg .e) s

/-- BIT 1,H (R294). -/
def execCbBit1H (s : State) : Answer :=
  bitOpnd .o1 (.reg .h) s

/-- BIT 1,L (R294). -/
def execCbBit1L (s : State) : Answer :=
  bitOpnd .o1 (.reg .l) s

/-- BIT 1,(HL) (R294). -/
def execCbBit1IndHl (s : State) : Answer :=
  bitOpnd .o1 .indHl s

/-- BIT 1,A (R294). -/
def execCbBit1A (s : State) : Answer :=
  bitOpnd .o1 (.reg .a) s

/-- BIT 2,B (R294). -/
def execCbBit2B (s : State) : Answer :=
  bitOpnd .o2 (.reg .b) s

/-- BIT 2,C (R294). -/
def execCbBit2C (s : State) : Answer :=
  bitOpnd .o2 (.reg .c) s

/-- BIT 2,D (R294). -/
def execCbBit2D (s : State) : Answer :=
  bitOpnd .o2 (.reg .d) s

/-- BIT 2,E (R294). -/
def execCbBit2E (s : State) : Answer :=
  bitOpnd .o2 (.reg .e) s

/-- BIT 2,H (R294). -/
def execCbBit2H (s : State) : Answer :=
  bitOpnd .o2 (.reg .h) s

/-- BIT 2,L (R294). -/
def execCbBit2L (s : State) : Answer :=
  bitOpnd .o2 (.reg .l) s

/-- BIT 2,(HL) (R294). -/
def execCbBit2IndHl (s : State) : Answer :=
  bitOpnd .o2 .indHl s

/-- BIT 2,A (R294). -/
def execCbBit2A (s : State) : Answer :=
  bitOpnd .o2 (.reg .a) s

/-- BIT 3,B (R294). -/
def execCbBit3B (s : State) : Answer :=
  bitOpnd .o3 (.reg .b) s

/-- BIT 3,C (R294). -/
def execCbBit3C (s : State) : Answer :=
  bitOpnd .o3 (.reg .c) s

/-- BIT 3,D (R294). -/
def execCbBit3D (s : State) : Answer :=
  bitOpnd .o3 (.reg .d) s

/-- BIT 3,E (R294). -/
def execCbBit3E (s : State) : Answer :=
  bitOpnd .o3 (.reg .e) s

/-- BIT 3,H (R294). -/
def execCbBit3H (s : State) : Answer :=
  bitOpnd .o3 (.reg .h) s

/-- BIT 3,L (R294). -/
def execCbBit3L (s : State) : Answer :=
  bitOpnd .o3 (.reg .l) s

/-- BIT 3,(HL) (R294). -/
def execCbBit3IndHl (s : State) : Answer :=
  bitOpnd .o3 .indHl s

/-- BIT 3,A (R294). -/
def execCbBit3A (s : State) : Answer :=
  bitOpnd .o3 (.reg .a) s

/-- BIT 4,B (R294). -/
def execCbBit4B (s : State) : Answer :=
  bitOpnd .o4 (.reg .b) s

/-- BIT 4,C (R294). -/
def execCbBit4C (s : State) : Answer :=
  bitOpnd .o4 (.reg .c) s

/-- BIT 4,D (R294). -/
def execCbBit4D (s : State) : Answer :=
  bitOpnd .o4 (.reg .d) s

/-- BIT 4,E (R294). -/
def execCbBit4E (s : State) : Answer :=
  bitOpnd .o4 (.reg .e) s

/-- BIT 4,H (R294). -/
def execCbBit4H (s : State) : Answer :=
  bitOpnd .o4 (.reg .h) s

/-- BIT 4,L (R294). -/
def execCbBit4L (s : State) : Answer :=
  bitOpnd .o4 (.reg .l) s

/-- BIT 4,(HL) (R294). -/
def execCbBit4IndHl (s : State) : Answer :=
  bitOpnd .o4 .indHl s

/-- BIT 4,A (R294). -/
def execCbBit4A (s : State) : Answer :=
  bitOpnd .o4 (.reg .a) s

/-- BIT 5,B (R294). -/
def execCbBit5B (s : State) : Answer :=
  bitOpnd .o5 (.reg .b) s

/-- BIT 5,C (R294). -/
def execCbBit5C (s : State) : Answer :=
  bitOpnd .o5 (.reg .c) s

/-- BIT 5,D (R294). -/
def execCbBit5D (s : State) : Answer :=
  bitOpnd .o5 (.reg .d) s

/-- BIT 5,E (R294). -/
def execCbBit5E (s : State) : Answer :=
  bitOpnd .o5 (.reg .e) s

/-- BIT 5,H (R294). -/
def execCbBit5H (s : State) : Answer :=
  bitOpnd .o5 (.reg .h) s

/-- BIT 5,L (R294). -/
def execCbBit5L (s : State) : Answer :=
  bitOpnd .o5 (.reg .l) s

/-- BIT 5,(HL) (R294). -/
def execCbBit5IndHl (s : State) : Answer :=
  bitOpnd .o5 .indHl s

/-- BIT 5,A (R294). -/
def execCbBit5A (s : State) : Answer :=
  bitOpnd .o5 (.reg .a) s

/-- BIT 6,B (R294). -/
def execCbBit6B (s : State) : Answer :=
  bitOpnd .o6 (.reg .b) s

/-- BIT 6,C (R294). -/
def execCbBit6C (s : State) : Answer :=
  bitOpnd .o6 (.reg .c) s

/-- BIT 6,D (R294). -/
def execCbBit6D (s : State) : Answer :=
  bitOpnd .o6 (.reg .d) s

/-- BIT 6,E (R294). -/
def execCbBit6E (s : State) : Answer :=
  bitOpnd .o6 (.reg .e) s

/-- BIT 6,H (R294). -/
def execCbBit6H (s : State) : Answer :=
  bitOpnd .o6 (.reg .h) s

/-- BIT 6,L (R294). -/
def execCbBit6L (s : State) : Answer :=
  bitOpnd .o6 (.reg .l) s

/-- BIT 6,(HL) (R294). -/
def execCbBit6IndHl (s : State) : Answer :=
  bitOpnd .o6 .indHl s

/-- BIT 6,A (R294). -/
def execCbBit6A (s : State) : Answer :=
  bitOpnd .o6 (.reg .a) s

/-- BIT 7,B (R294). -/
def execCbBit7B (s : State) : Answer :=
  bitOpnd .o7 (.reg .b) s

/-- BIT 7,C (R294). -/
def execCbBit7C (s : State) : Answer :=
  bitOpnd .o7 (.reg .c) s

/-- BIT 7,D (R294). -/
def execCbBit7D (s : State) : Answer :=
  bitOpnd .o7 (.reg .d) s

/-- BIT 7,E (R294). -/
def execCbBit7E (s : State) : Answer :=
  bitOpnd .o7 (.reg .e) s

/-- BIT 7,H (R294). -/
def execCbBit7H (s : State) : Answer :=
  bitOpnd .o7 (.reg .h) s

/-- BIT 7,L (R294). -/
def execCbBit7L (s : State) : Answer :=
  bitOpnd .o7 (.reg .l) s

/-- BIT 7,(HL) (R294). -/
def execCbBit7IndHl (s : State) : Answer :=
  bitOpnd .o7 .indHl s

/-- BIT 7,A (R294). -/
def execCbBit7A (s : State) : Answer :=
  bitOpnd .o7 (.reg .a) s

/-- RES 0,B (R295). -/
def execCbRes0B (s : State) : Answer :=
  resOpnd .o0 (.reg .b) s

/-- RES 0,C (R295). -/
def execCbRes0C (s : State) : Answer :=
  resOpnd .o0 (.reg .c) s

/-- RES 0,D (R295). -/
def execCbRes0D (s : State) : Answer :=
  resOpnd .o0 (.reg .d) s

/-- RES 0,E (R295). -/
def execCbRes0E (s : State) : Answer :=
  resOpnd .o0 (.reg .e) s

/-- RES 0,H (R295). -/
def execCbRes0H (s : State) : Answer :=
  resOpnd .o0 (.reg .h) s

/-- RES 0,L (R295). -/
def execCbRes0L (s : State) : Answer :=
  resOpnd .o0 (.reg .l) s

/-- RES 0,(HL) (R295). -/
def execCbRes0IndHl (s : State) : Answer :=
  resOpnd .o0 .indHl s

/-- RES 0,A (R295). -/
def execCbRes0A (s : State) : Answer :=
  resOpnd .o0 (.reg .a) s

/-- RES 1,B (R295). -/
def execCbRes1B (s : State) : Answer :=
  resOpnd .o1 (.reg .b) s

/-- RES 1,C (R295). -/
def execCbRes1C (s : State) : Answer :=
  resOpnd .o1 (.reg .c) s

/-- RES 1,D (R295). -/
def execCbRes1D (s : State) : Answer :=
  resOpnd .o1 (.reg .d) s

/-- RES 1,E (R295). -/
def execCbRes1E (s : State) : Answer :=
  resOpnd .o1 (.reg .e) s

/-- RES 1,H (R295). -/
def execCbRes1H (s : State) : Answer :=
  resOpnd .o1 (.reg .h) s

/-- RES 1,L (R295). -/
def execCbRes1L (s : State) : Answer :=
  resOpnd .o1 (.reg .l) s

/-- RES 1,(HL) (R295). -/
def execCbRes1IndHl (s : State) : Answer :=
  resOpnd .o1 .indHl s

/-- RES 1,A (R295). -/
def execCbRes1A (s : State) : Answer :=
  resOpnd .o1 (.reg .a) s

/-- RES 2,B (R295). -/
def execCbRes2B (s : State) : Answer :=
  resOpnd .o2 (.reg .b) s

/-- RES 2,C (R295). -/
def execCbRes2C (s : State) : Answer :=
  resOpnd .o2 (.reg .c) s

/-- RES 2,D (R295). -/
def execCbRes2D (s : State) : Answer :=
  resOpnd .o2 (.reg .d) s

/-- RES 2,E (R295). -/
def execCbRes2E (s : State) : Answer :=
  resOpnd .o2 (.reg .e) s

/-- RES 2,H (R295). -/
def execCbRes2H (s : State) : Answer :=
  resOpnd .o2 (.reg .h) s

/-- RES 2,L (R295). -/
def execCbRes2L (s : State) : Answer :=
  resOpnd .o2 (.reg .l) s

/-- RES 2,(HL) (R295). -/
def execCbRes2IndHl (s : State) : Answer :=
  resOpnd .o2 .indHl s

/-- RES 2,A (R295). -/
def execCbRes2A (s : State) : Answer :=
  resOpnd .o2 (.reg .a) s

/-- RES 3,B (R295). -/
def execCbRes3B (s : State) : Answer :=
  resOpnd .o3 (.reg .b) s

/-- RES 3,C (R295). -/
def execCbRes3C (s : State) : Answer :=
  resOpnd .o3 (.reg .c) s

/-- RES 3,D (R295). -/
def execCbRes3D (s : State) : Answer :=
  resOpnd .o3 (.reg .d) s

/-- RES 3,E (R295). -/
def execCbRes3E (s : State) : Answer :=
  resOpnd .o3 (.reg .e) s

/-- RES 3,H (R295). -/
def execCbRes3H (s : State) : Answer :=
  resOpnd .o3 (.reg .h) s

/-- RES 3,L (R295). -/
def execCbRes3L (s : State) : Answer :=
  resOpnd .o3 (.reg .l) s

/-- RES 3,(HL) (R295). -/
def execCbRes3IndHl (s : State) : Answer :=
  resOpnd .o3 .indHl s

/-- RES 3,A (R295). -/
def execCbRes3A (s : State) : Answer :=
  resOpnd .o3 (.reg .a) s

/-- RES 4,B (R295). -/
def execCbRes4B (s : State) : Answer :=
  resOpnd .o4 (.reg .b) s

/-- RES 4,C (R295). -/
def execCbRes4C (s : State) : Answer :=
  resOpnd .o4 (.reg .c) s

/-- RES 4,D (R295). -/
def execCbRes4D (s : State) : Answer :=
  resOpnd .o4 (.reg .d) s

/-- RES 4,E (R295). -/
def execCbRes4E (s : State) : Answer :=
  resOpnd .o4 (.reg .e) s

/-- RES 4,H (R295). -/
def execCbRes4H (s : State) : Answer :=
  resOpnd .o4 (.reg .h) s

/-- RES 4,L (R295). -/
def execCbRes4L (s : State) : Answer :=
  resOpnd .o4 (.reg .l) s

/-- RES 4,(HL) (R295). -/
def execCbRes4IndHl (s : State) : Answer :=
  resOpnd .o4 .indHl s

/-- RES 4,A (R295). -/
def execCbRes4A (s : State) : Answer :=
  resOpnd .o4 (.reg .a) s

/-- RES 5,B (R295). -/
def execCbRes5B (s : State) : Answer :=
  resOpnd .o5 (.reg .b) s

/-- RES 5,C (R295). -/
def execCbRes5C (s : State) : Answer :=
  resOpnd .o5 (.reg .c) s

/-- RES 5,D (R295). -/
def execCbRes5D (s : State) : Answer :=
  resOpnd .o5 (.reg .d) s

/-- RES 5,E (R295). -/
def execCbRes5E (s : State) : Answer :=
  resOpnd .o5 (.reg .e) s

/-- RES 5,H (R295). -/
def execCbRes5H (s : State) : Answer :=
  resOpnd .o5 (.reg .h) s

/-- RES 5,L (R295). -/
def execCbRes5L (s : State) : Answer :=
  resOpnd .o5 (.reg .l) s

/-- RES 5,(HL) (R295). -/
def execCbRes5IndHl (s : State) : Answer :=
  resOpnd .o5 .indHl s

/-- RES 5,A (R295). -/
def execCbRes5A (s : State) : Answer :=
  resOpnd .o5 (.reg .a) s

/-- RES 6,B (R295). -/
def execCbRes6B (s : State) : Answer :=
  resOpnd .o6 (.reg .b) s

/-- RES 6,C (R295). -/
def execCbRes6C (s : State) : Answer :=
  resOpnd .o6 (.reg .c) s

/-- RES 6,D (R295). -/
def execCbRes6D (s : State) : Answer :=
  resOpnd .o6 (.reg .d) s

/-- RES 6,E (R295). -/
def execCbRes6E (s : State) : Answer :=
  resOpnd .o6 (.reg .e) s

/-- RES 6,H (R295). -/
def execCbRes6H (s : State) : Answer :=
  resOpnd .o6 (.reg .h) s

/-- RES 6,L (R295). -/
def execCbRes6L (s : State) : Answer :=
  resOpnd .o6 (.reg .l) s

/-- RES 6,(HL) (R295). -/
def execCbRes6IndHl (s : State) : Answer :=
  resOpnd .o6 .indHl s

/-- RES 6,A (R295). -/
def execCbRes6A (s : State) : Answer :=
  resOpnd .o6 (.reg .a) s

/-- RES 7,B (R295). -/
def execCbRes7B (s : State) : Answer :=
  resOpnd .o7 (.reg .b) s

/-- RES 7,C (R295). -/
def execCbRes7C (s : State) : Answer :=
  resOpnd .o7 (.reg .c) s

/-- RES 7,D (R295). -/
def execCbRes7D (s : State) : Answer :=
  resOpnd .o7 (.reg .d) s

/-- RES 7,E (R295). -/
def execCbRes7E (s : State) : Answer :=
  resOpnd .o7 (.reg .e) s

/-- RES 7,H (R295). -/
def execCbRes7H (s : State) : Answer :=
  resOpnd .o7 (.reg .h) s

/-- RES 7,L (R295). -/
def execCbRes7L (s : State) : Answer :=
  resOpnd .o7 (.reg .l) s

/-- RES 7,(HL) (R295). -/
def execCbRes7IndHl (s : State) : Answer :=
  resOpnd .o7 .indHl s

/-- RES 7,A (R295). -/
def execCbRes7A (s : State) : Answer :=
  resOpnd .o7 (.reg .a) s

/-- SET 0,B (R296). -/
def execCbSet0B (s : State) : Answer :=
  setOpnd .o0 (.reg .b) s

/-- SET 0,C (R296). -/
def execCbSet0C (s : State) : Answer :=
  setOpnd .o0 (.reg .c) s

/-- SET 0,D (R296). -/
def execCbSet0D (s : State) : Answer :=
  setOpnd .o0 (.reg .d) s

/-- SET 0,E (R296). -/
def execCbSet0E (s : State) : Answer :=
  setOpnd .o0 (.reg .e) s

/-- SET 0,H (R296). -/
def execCbSet0H (s : State) : Answer :=
  setOpnd .o0 (.reg .h) s

/-- SET 0,L (R296). -/
def execCbSet0L (s : State) : Answer :=
  setOpnd .o0 (.reg .l) s

/-- SET 0,(HL) (R296). -/
def execCbSet0IndHl (s : State) : Answer :=
  setOpnd .o0 .indHl s

/-- SET 0,A (R296). -/
def execCbSet0A (s : State) : Answer :=
  setOpnd .o0 (.reg .a) s

/-- SET 1,B (R296). -/
def execCbSet1B (s : State) : Answer :=
  setOpnd .o1 (.reg .b) s

/-- SET 1,C (R296). -/
def execCbSet1C (s : State) : Answer :=
  setOpnd .o1 (.reg .c) s

/-- SET 1,D (R296). -/
def execCbSet1D (s : State) : Answer :=
  setOpnd .o1 (.reg .d) s

/-- SET 1,E (R296). -/
def execCbSet1E (s : State) : Answer :=
  setOpnd .o1 (.reg .e) s

/-- SET 1,H (R296). -/
def execCbSet1H (s : State) : Answer :=
  setOpnd .o1 (.reg .h) s

/-- SET 1,L (R296). -/
def execCbSet1L (s : State) : Answer :=
  setOpnd .o1 (.reg .l) s

/-- SET 1,(HL) (R296). -/
def execCbSet1IndHl (s : State) : Answer :=
  setOpnd .o1 .indHl s

/-- SET 1,A (R296). -/
def execCbSet1A (s : State) : Answer :=
  setOpnd .o1 (.reg .a) s

/-- SET 2,B (R296). -/
def execCbSet2B (s : State) : Answer :=
  setOpnd .o2 (.reg .b) s

/-- SET 2,C (R296). -/
def execCbSet2C (s : State) : Answer :=
  setOpnd .o2 (.reg .c) s

/-- SET 2,D (R296). -/
def execCbSet2D (s : State) : Answer :=
  setOpnd .o2 (.reg .d) s

/-- SET 2,E (R296). -/
def execCbSet2E (s : State) : Answer :=
  setOpnd .o2 (.reg .e) s

/-- SET 2,H (R296). -/
def execCbSet2H (s : State) : Answer :=
  setOpnd .o2 (.reg .h) s

/-- SET 2,L (R296). -/
def execCbSet2L (s : State) : Answer :=
  setOpnd .o2 (.reg .l) s

/-- SET 2,(HL) (R296). -/
def execCbSet2IndHl (s : State) : Answer :=
  setOpnd .o2 .indHl s

/-- SET 2,A (R296). -/
def execCbSet2A (s : State) : Answer :=
  setOpnd .o2 (.reg .a) s

/-- SET 3,B (R296). -/
def execCbSet3B (s : State) : Answer :=
  setOpnd .o3 (.reg .b) s

/-- SET 3,C (R296). -/
def execCbSet3C (s : State) : Answer :=
  setOpnd .o3 (.reg .c) s

/-- SET 3,D (R296). -/
def execCbSet3D (s : State) : Answer :=
  setOpnd .o3 (.reg .d) s

/-- SET 3,E (R296). -/
def execCbSet3E (s : State) : Answer :=
  setOpnd .o3 (.reg .e) s

/-- SET 3,H (R296). -/
def execCbSet3H (s : State) : Answer :=
  setOpnd .o3 (.reg .h) s

/-- SET 3,L (R296). -/
def execCbSet3L (s : State) : Answer :=
  setOpnd .o3 (.reg .l) s

/-- SET 3,(HL) (R296). -/
def execCbSet3IndHl (s : State) : Answer :=
  setOpnd .o3 .indHl s

/-- SET 3,A (R296). -/
def execCbSet3A (s : State) : Answer :=
  setOpnd .o3 (.reg .a) s

/-- SET 4,B (R296). -/
def execCbSet4B (s : State) : Answer :=
  setOpnd .o4 (.reg .b) s

/-- SET 4,C (R296). -/
def execCbSet4C (s : State) : Answer :=
  setOpnd .o4 (.reg .c) s

/-- SET 4,D (R296). -/
def execCbSet4D (s : State) : Answer :=
  setOpnd .o4 (.reg .d) s

/-- SET 4,E (R296). -/
def execCbSet4E (s : State) : Answer :=
  setOpnd .o4 (.reg .e) s

/-- SET 4,H (R296). -/
def execCbSet4H (s : State) : Answer :=
  setOpnd .o4 (.reg .h) s

/-- SET 4,L (R296). -/
def execCbSet4L (s : State) : Answer :=
  setOpnd .o4 (.reg .l) s

/-- SET 4,(HL) (R296). -/
def execCbSet4IndHl (s : State) : Answer :=
  setOpnd .o4 .indHl s

/-- SET 4,A (R296). -/
def execCbSet4A (s : State) : Answer :=
  setOpnd .o4 (.reg .a) s

/-- SET 5,B (R296). -/
def execCbSet5B (s : State) : Answer :=
  setOpnd .o5 (.reg .b) s

/-- SET 5,C (R296). -/
def execCbSet5C (s : State) : Answer :=
  setOpnd .o5 (.reg .c) s

/-- SET 5,D (R296). -/
def execCbSet5D (s : State) : Answer :=
  setOpnd .o5 (.reg .d) s

/-- SET 5,E (R296). -/
def execCbSet5E (s : State) : Answer :=
  setOpnd .o5 (.reg .e) s

/-- SET 5,H (R296). -/
def execCbSet5H (s : State) : Answer :=
  setOpnd .o5 (.reg .h) s

/-- SET 5,L (R296). -/
def execCbSet5L (s : State) : Answer :=
  setOpnd .o5 (.reg .l) s

/-- SET 5,(HL) (R296). -/
def execCbSet5IndHl (s : State) : Answer :=
  setOpnd .o5 .indHl s

/-- SET 5,A (R296). -/
def execCbSet5A (s : State) : Answer :=
  setOpnd .o5 (.reg .a) s

/-- SET 6,B (R296). -/
def execCbSet6B (s : State) : Answer :=
  setOpnd .o6 (.reg .b) s

/-- SET 6,C (R296). -/
def execCbSet6C (s : State) : Answer :=
  setOpnd .o6 (.reg .c) s

/-- SET 6,D (R296). -/
def execCbSet6D (s : State) : Answer :=
  setOpnd .o6 (.reg .d) s

/-- SET 6,E (R296). -/
def execCbSet6E (s : State) : Answer :=
  setOpnd .o6 (.reg .e) s

/-- SET 6,H (R296). -/
def execCbSet6H (s : State) : Answer :=
  setOpnd .o6 (.reg .h) s

/-- SET 6,L (R296). -/
def execCbSet6L (s : State) : Answer :=
  setOpnd .o6 (.reg .l) s

/-- SET 6,(HL) (R296). -/
def execCbSet6IndHl (s : State) : Answer :=
  setOpnd .o6 .indHl s

/-- SET 6,A (R296). -/
def execCbSet6A (s : State) : Answer :=
  setOpnd .o6 (.reg .a) s

/-- SET 7,B (R296). -/
def execCbSet7B (s : State) : Answer :=
  setOpnd .o7 (.reg .b) s

/-- SET 7,C (R296). -/
def execCbSet7C (s : State) : Answer :=
  setOpnd .o7 (.reg .c) s

/-- SET 7,D (R296). -/
def execCbSet7D (s : State) : Answer :=
  setOpnd .o7 (.reg .d) s

/-- SET 7,E (R296). -/
def execCbSet7E (s : State) : Answer :=
  setOpnd .o7 (.reg .e) s

/-- SET 7,H (R296). -/
def execCbSet7H (s : State) : Answer :=
  setOpnd .o7 (.reg .h) s

/-- SET 7,L (R296). -/
def execCbSet7L (s : State) : Answer :=
  setOpnd .o7 (.reg .l) s

/-- SET 7,(HL) (R296). -/
def execCbSet7IndHl (s : State) : Answer :=
  setOpnd .o7 .indHl s

/-- SET 7,A (R296). -/
def execCbSet7A (s : State) : Answer :=
  setOpnd .o7 (.reg .a) s

end Sys2Proof.Machine
end

