-- ==== Sys2Proof/WellFormed.lean ====
section
/-! DEFINITION. Well-formed instructions: the ones the decoder can answer. Every operand of `Instr` has exactly the values
its encoding admits, by its type, so one check is left. -/

namespace Sys2Proof

/-- `i` is an instruction of its own. The row of the byte 0xCB is not: "It is not an instruction of its own", 0xCB and
the byte after it are one instruction of the secondary table (R142, R366). -/
def Instr.isWhole (i : Instr) : Bool :=
  match i with
  | .prefixCb _ => false
  | _ => true

/-- The well-formedness of an instruction: all the checks together. -/
def Instr.wf (i : Instr) : Bool := i.isWhole

end Sys2Proof
end

