-- ==== Sys2Proof/Decode.lean ====
section
/-! DEFINITION. Decoding, by the operand fields of R143 and R144, total on any bytes and rejecting by name; and the
encoder, by the opcode maps of R148 and R150 (spec/opcode_table.json). -/

namespace Sys2Proof

open Sys2Proof.Machine (joinBytes loByte hiByte)

/-! ## Fields (R143) -/

/-- The value of a 3-bit field. -/
def octalOf (n : Nat) : Octal :=
  match n with
  | 0 => .o0
  | 1 => .o1
  | 2 => .o2
  | 3 => .o3
  | 4 => .o4
  | 5 => .o5
  | 6 => .o6
  | _ => .o7

/-- `y = b[5:3]`. -/
def fieldY (b : Byte) : Octal := octalOf (b.toNat / 8 % 8)

/-- `z = b[2:0]`. -/
def fieldZ (b : Byte) : Octal := octalOf (b.toNat % 8)

/-- The operand `r` of a field. -/
def Octal.opnd (o : Octal) : Opnd :=
  match o with
  | .o0 => .reg .b
  | .o1 => .reg .c
  | .o2 => .reg .d
  | .o3 => .reg .e
  | .o4 => .reg .h
  | .o5 => .reg .l
  | .o6 => .indHl
  | .o7 => .reg .a

/-- The ALU operation of a field (R144, R221). -/
def Octal.alu (o : Octal) : AluOp :=
  match o with
  | .o0 => .add
  | .o1 => .adc
  | .o2 => .sub
  | .o3 => .sbc
  | .o4 => .and
  | .o5 => .xor
  | .o6 => .or
  | .o7 => .cp

/-- The rotate or shift of a field (R144). -/
def Octal.rot (o : Octal) : RotOp :=
  match o with
  | .o0 => .rlc
  | .o1 => .rrc
  | .o2 => .rl
  | .o3 => .rr
  | .o4 => .sla
  | .o5 => .sra
  | .o6 => .swap
  | .o7 => .srl

/-! ## The unprefixed table by x and z (R144, R148) -/

/-- x = 0, z = 0. -/
def decodeX0Z0 (y : Octal) (n : Byte) (w : Word) : Instr :=
  match y with
  | .o0 => .nop
  | .o1 => .ldIndA16Sp w
  | .o2 => .stop n
  | .o3 => .jrE8 n
  | .o4 => .mkJrCond .nz n
  | .o5 => .mkJrCond .z n
  | .o6 => .mkJrCond .nc n
  | .o7 => .mkJrCond .c n

/-- x = 0, z = 1: LD rr,d16 with q = 0, ADD HL,rr with q = 1. -/
def decodeX0Z1 (y : Octal) (w : Word) : Instr :=
  match y with
  | .o0 => .mkLdPairImm .bc w
  | .o1 => .mkAddHl .bc
  | .o2 => .mkLdPairImm .de w
  | .o3 => .mkAddHl .de
  | .o4 => .mkLdPairImm .hl w
  | .o5 => .mkAddHl .hl
  | .o6 => .mkLdPairImm .sp w
  | .o7 => .mkAddHl .sp

/-- x = 0, z = 2. -/
def decodeX0Z2 (y : Octal) : Instr :=
  match y with
  | .o0 => .ldIndBcA
  | .o1 => .ldAIndBc
  | .o2 => .ldIndDeA
  | .o3 => .ldAIndDe
  | .o4 => .ldIndHlIncA
  | .o5 => .ldAIndHlInc
  | .o6 => .ldIndHlDecA
  | .o7 => .ldAIndHlDec

/-- x = 0, z = 3: INC rr with q = 0, DEC rr with q = 1. -/
def decodeX0Z3 (y : Octal) : Instr :=
  match y with
  | .o0 => .mkIncPair .bc
  | .o1 => .mkDecPair .bc
  | .o2 => .mkIncPair .de
  | .o3 => .mkDecPair .de
  | .o4 => .mkIncPair .hl
  | .o5 => .mkDecPair .hl
  | .o6 => .mkIncPair .sp
  | .o7 => .mkDecPair .sp

/-- x = 0, z = 7. -/
def decodeX0Z7 (y : Octal) : Instr :=
  match y with
  | .o0 => .rlca
  | .o1 => .rrca
  | .o2 => .rla
  | .o3 => .rra
  | .o4 => .daa
  | .o5 => .cpl
  | .o6 => .scf
  | .o7 => .ccf

/-- x = 0. -/
def decodeX0 (y z : Octal) (n : Byte) (w : Word) : Instr :=
  match z with
  | .o0 => decodeX0Z0 y n w
  | .o1 => decodeX0Z1 y w
  | .o2 => decodeX0Z2 y
  | .o3 => decodeX0Z3 y
  | .o4 => .mkInc y.opnd
  | .o5 => .mkDec y.opnd
  | .o6 => .mkLdImm y.opnd n
  | .o7 => decodeX0Z7 y

/-- x = 3, z = 0. -/
def decodeX3Z0 (y : Octal) (n : Byte) : Instr :=
  match y with
  | .o0 => .mkRetCond .nz
  | .o1 => .mkRetCond .z
  | .o2 => .mkRetCond .nc
  | .o3 => .mkRetCond .c
  | .o4 => .ldhIndA8A n
  | .o5 => .addSpE8 n
  | .o6 => .ldhAIndA8 n
  | .o7 => .ldHlSpE8 n

/-- x = 3, z = 1. -/
def decodeX3Z1 (y : Octal) : Instr :=
  match y with
  | .o0 => .mkPop .bc
  | .o1 => .ret
  | .o2 => .mkPop .de
  | .o3 => .reti
  | .o4 => .mkPop .hl
  | .o5 => .jpHl
  | .o6 => .mkPop .af
  | .o7 => .ldSpHl

/-- x = 3, z = 2. -/
def decodeX3Z2 (y : Octal) (w : Word) : Instr :=
  match y with
  | .o0 => .mkJpCond .nz w
  | .o1 => .mkJpCond .z w
  | .o2 => .mkJpCond .nc w
  | .o3 => .mkJpCond .c w
  | .o4 => .ldIndCA
  | .o5 => .ldIndA16A w
  | .o6 => .ldAIndC
  | .o7 => .ldAIndA16 w

/-- The CB-prefixed instruction with second byte `b` (R144, R150). -/
def decodeCb (b : Byte) : Instr :=
  match b.toNat / 64 with
  | 0 => .mkRot (fieldY b).rot (fieldZ b).opnd
  | 1 => .mkBit (fieldY b) (fieldZ b).opnd
  | 2 => .mkRes (fieldY b) (fieldZ b).opnd
  | _ => .mkSet (fieldY b) (fieldZ b).opnd

/-- x = 3, z = 3; the byte 0xCB makes the next byte an opcode of the secondary table (R142). -/
def decodeX3Z3 (y : Octal) (n : Byte) (w : Word) : Instr :=
  match y with
  | .o0 => .jpA16 w
  | .o1 => decodeCb n
  | .o2 => .illegalD3
  | .o3 => .illegalDB
  | .o4 => .illegalE3
  | .o5 => .illegalEB
  | .o6 => .di
  | .o7 => .ei

/-- x = 3, z = 4. -/
def decodeX3Z4 (y : Octal) (w : Word) : Instr :=
  match y with
  | .o0 => .mkCallCond .nz w
  | .o1 => .mkCallCond .z w
  | .o2 => .mkCallCond .nc w
  | .o3 => .mkCallCond .c w
  | .o4 => .illegalE4
  | .o5 => .illegalEC
  | .o6 => .illegalF4
  | .o7 => .illegalFC

/-- x = 3, z = 5. -/
def decodeX3Z5 (y : Octal) (w : Word) : Instr :=
  match y with
  | .o0 => .mkPush .bc
  | .o1 => .callA16 w
  | .o2 => .mkPush .de
  | .o3 => .illegalDD
  | .o4 => .mkPush .hl
  | .o5 => .illegalED
  | .o6 => .mkPush .af
  | .o7 => .illegalFD

/-- x = 3. -/
def decodeX3 (y z : Octal) (n : Byte) (w : Word) : Instr :=
  match z with
  | .o0 => decodeX3Z0 y n
  | .o1 => decodeX3Z1 y
  | .o2 => decodeX3Z2 y w
  | .o3 => decodeX3Z3 y n w
  | .o4 => decodeX3Z4 y w
  | .o5 => decodeX3Z5 y w
  | .o6 => .mkAluImm y.alu n
  | .o7 => .mkRst y

/-- The instruction of three bytes in stream order: `b0` the opcode byte, `b1` and `b2` the two bytes after it, read only
as far as the instruction has bytes (R141, R147). -/
def decodeBytes (b0 b1 b2 : Byte) : Instr :=
  let y := fieldY b0
  let z := fieldZ b0
  match b0.toNat / 64 with
  | 0 => decodeX0 y z b1 (joinBytes b2 b1)
  | 1 => .mkLd y.opnd z.opnd
  | 2 => .mkAlu y.alu z.opnd
  | _ => decodeX3 y z b1 (joinBytes b2 b1)

/-! ## Lengths (R153) -/

/-- The opcode bytes of the formats I8 and I8S. -/
def immediate8Opcodes : List Byte :=
  [0x06, 0x0E, 0x16, 0x1E, 0x26, 0x2E, 0x36, 0x3E, 0x18, 0x20, 0x28, 0x30, 0x38, 0xC6, 0xCE, 0xD6,
   0xDE, 0xE6, 0xEE, 0xF6, 0xFE, 0xE0, 0xF0, 0xE8, 0xF8]

/-- The opcode bytes of the format I16. -/
def immediate16Opcodes : List Byte :=
  [0x01, 0x11, 0x21, 0x31, 0x08, 0xC2, 0xC3, 0xCA, 0xD2, 0xDA, 0xC4, 0xCC, 0xCD, 0xD4, 0xDC, 0xEA,
   0xFA]

/-- The length of an instruction from its byte 0 alone (R141, R153). -/
def opcodeLength (b0 : Byte) : Nat :=
  if b0 = 0xCB ∨ b0 = 0x10 then 2
  else if immediate8Opcodes.contains b0 then 2
  else if immediate16Opcodes.contains b0 then 3
  else 1

/-! ## The decoder on a stream of bytes -/

/-- Why a stream does not decode. Every byte value has a row, the 11 illegal bytes included, so only the stream's end
rejects. -/
inductive DecodeError where
  /-- The stream holds no byte. -/
  | emptyStream
  /-- The stream ends inside the instruction that the opcode byte begins. -/
  | truncated (opcode : Byte)
deriving DecidableEq, Repr

/-- What the decoder answers: an instruction and the rest of the stream, or a rejection by name. -/
inductive Decoded where
  | ok (i : Instr) (rest : List Byte)
  | rejected (why : DecodeError)
deriving DecidableEq, Repr

/-- Decode the first instruction of a stream. -/
def decode (bytes : List Byte) : Decoded :=
  match bytes with
  | [] => .rejected .emptyStream
  | b0 :: rest =>
    if bytes.length < opcodeLength b0 then .rejected (.truncated b0)
    else .ok (decodeBytes b0 (rest.getD 0 0) (rest.getD 1 0)) (bytes.drop (opcodeLength b0))

/-! ## The encoder (R148, R150) -/

/-- The bytes of an instruction, in stream order. -/
def encode (i : Instr) : List Byte :=
  match i with
  | .nop => [0x00]
  | .ldBcD16 w => [0x01, loByte w, hiByte w]
  | .ldIndBcA => [0x02]
  | .incBc => [0x03]
  | .incB => [0x04]
  | .decB => [0x05]
  | .ldBD8 n => [0x06, n]
  | .rlca => [0x07]
  | .ldIndA16Sp w => [0x08, loByte w, hiByte w]
  | .addHlBc => [0x09]
  | .ldAIndBc => [0x0A]
  | .decBc => [0x0B]
  | .incC => [0x0C]
  | .decC => [0x0D]
  | .ldCD8 n => [0x0E, n]
  | .rrca => [0x0F]
  | .stop ignored => [0x10, ignored]
  | .ldDeD16 w => [0x11, loByte w, hiByte w]
  | .ldIndDeA => [0x12]
  | .incDe => [0x13]
  | .incD => [0x14]
  | .decD => [0x15]
  | .ldDD8 n => [0x16, n]
  | .rla => [0x17]
  | .jrE8 e => [0x18, e]
  | .addHlDe => [0x19]
  | .ldAIndDe => [0x1A]
  | .decDe => [0x1B]
  | .incE => [0x1C]
  | .decE => [0x1D]
  | .ldED8 n => [0x1E, n]
  | .rra => [0x1F]
  | .jrNzE8 e => [0x20, e]
  | .ldHlD16 w => [0x21, loByte w, hiByte w]
  | .ldIndHlIncA => [0x22]
  | .incHl => [0x23]
  | .incH => [0x24]
  | .decH => [0x25]
  | .ldHD8 n => [0x26, n]
  | .daa => [0x27]
  | .jrZE8 e => [0x28, e]
  | .addHlHl => [0x29]
  | .ldAIndHlInc => [0x2A]
  | .decHl => [0x2B]
  | .incL => [0x2C]
  | .decL => [0x2D]
  | .ldLD8 n => [0x2E, n]
  | .cpl => [0x2F]
  | .jrNcE8 e => [0x30, e]
  | .ldSpD16 w => [0x31, loByte w, hiByte w]
  | .ldIndHlDecA => [0x32]
  | .incSp => [0x33]
  | .incIndHl => [0x34]
  | .decIndHl => [0x35]
  | .ldIndHlD8 n => [0x36, n]
  | .scf => [0x37]
  | .jrCE8 e => [0x38, e]
  | .addHlSp => [0x39]
  | .ldAIndHlDec => [0x3A]
  | .decSp => [0x3B]
  | .incA => [0x3C]
  | .decA => [0x3D]
  | .ldAD8 n => [0x3E, n]
  | .ccf => [0x3F]
  | .ldBB => [0x40]
  | .ldBC => [0x41]
  | .ldBD => [0x42]
  | .ldBE => [0x43]
  | .ldBH => [0x44]
  | .ldBL => [0x45]
  | .ldBIndHl => [0x46]
  | .ldBA => [0x47]
  | .ldCB => [0x48]
  | .ldCC => [0x49]
  | .ldCD => [0x4A]
  | .ldCE => [0x4B]
  | .ldCH => [0x4C]
  | .ldCL => [0x4D]
  | .ldCIndHl => [0x4E]
  | .ldCA => [0x4F]
  | .ldDB => [0x50]
  | .ldDC => [0x51]
  | .ldDD => [0x52]
  | .ldDE => [0x53]
  | .ldDH => [0x54]
  | .ldDL => [0x55]
  | .ldDIndHl => [0x56]
  | .ldDA => [0x57]
  | .ldEB => [0x58]
  | .ldEC => [0x59]
  | .ldED => [0x5A]
  | .ldEE => [0x5B]
  | .ldEH => [0x5C]
  | .ldEL => [0x5D]
  | .ldEIndHl => [0x5E]
  | .ldEA => [0x5F]
  | .ldHB => [0x60]
  | .ldHC => [0x61]
  | .ldHD => [0x62]
  | .ldHE => [0x63]
  | .ldHH => [0x64]
  | .ldHL => [0x65]
  | .ldHIndHl => [0x66]
  | .ldHA => [0x67]
  | .ldLB => [0x68]
  | .ldLC => [0x69]
  | .ldLD => [0x6A]
  | .ldLE => [0x6B]
  | .ldLH => [0x6C]
  | .ldLL => [0x6D]
  | .ldLIndHl => [0x6E]
  | .ldLA => [0x6F]
  | .ldIndHlB => [0x70]
  | .ldIndHlC => [0x71]
  | .ldIndHlD => [0x72]
  | .ldIndHlE => [0x73]
  | .ldIndHlH => [0x74]
  | .ldIndHlL => [0x75]
  | .halt => [0x76]
  | .ldIndHlA => [0x77]
  | .ldAB => [0x78]
  | .ldAC => [0x79]
  | .ldAD => [0x7A]
  | .ldAE => [0x7B]
  | .ldAH => [0x7C]
  | .ldAL => [0x7D]
  | .ldAIndHl => [0x7E]
  | .ldAA => [0x7F]
  | .addAB => [0x80]
  | .addAC => [0x81]
  | .addAD => [0x82]
  | .addAE => [0x83]
  | .addAH => [0x84]
  | .addAL => [0x85]
  | .addAIndHl => [0x86]
  | .addAA => [0x87]
  | .adcAB => [0x88]
  | .adcAC => [0x89]
  | .adcAD => [0x8A]
  | .adcAE => [0x8B]
  | .adcAH => [0x8C]
  | .adcAL => [0x8D]
  | .adcAIndHl => [0x8E]
  | .adcAA => [0x8F]
  | .subB => [0x90]
  | .subC => [0x91]
  | .subD => [0x92]
  | .subE => [0x93]
  | .subH => [0x94]
  | .subL => [0x95]
  | .subIndHl => [0x96]
  | .subA => [0x97]
  | .sbcAB => [0x98]
  | .sbcAC => [0x99]
  | .sbcAD => [0x9A]
  | .sbcAE => [0x9B]
  | .sbcAH => [0x9C]
  | .sbcAL => [0x9D]
  | .sbcAIndHl => [0x9E]
  | .sbcAA => [0x9F]
  | .andB => [0xA0]
  | .andC => [0xA1]
  | .andD => [0xA2]
  | .andE => [0xA3]
  | .andH => [0xA4]
  | .andL => [0xA5]
  | .andIndHl => [0xA6]
  | .andA => [0xA7]
  | .xorB => [0xA8]
  | .xorC => [0xA9]
  | .xorD => [0xAA]
  | .xorE => [0xAB]
  | .xorH => [0xAC]
  | .xorL => [0xAD]
  | .xorIndHl => [0xAE]
  | .xorA => [0xAF]
  | .orB => [0xB0]
  | .orC => [0xB1]
  | .orD => [0xB2]
  | .orE => [0xB3]
  | .orH => [0xB4]
  | .orL => [0xB5]
  | .orIndHl => [0xB6]
  | .orA => [0xB7]
  | .cpB => [0xB8]
  | .cpC => [0xB9]
  | .cpD => [0xBA]
  | .cpE => [0xBB]
  | .cpH => [0xBC]
  | .cpL => [0xBD]
  | .cpIndHl => [0xBE]
  | .cpA => [0xBF]
  | .retNz => [0xC0]
  | .popBc => [0xC1]
  | .jpNzA16 w => [0xC2, loByte w, hiByte w]
  | .jpA16 w => [0xC3, loByte w, hiByte w]
  | .callNzA16 w => [0xC4, loByte w, hiByte w]
  | .pushBc => [0xC5]
  | .addAD8 n => [0xC6, n]
  | .rst00 => [0xC7]
  | .retZ => [0xC8]
  | .ret => [0xC9]
  | .jpZA16 w => [0xCA, loByte w, hiByte w]
  | .prefixCb op2 => [0xCB, op2]
  | .callZA16 w => [0xCC, loByte w, hiByte w]
  | .callA16 w => [0xCD, loByte w, hiByte w]
  | .adcAD8 n => [0xCE, n]
  | .rst08 => [0xCF]
  | .retNc => [0xD0]
  | .popDe => [0xD1]
  | .jpNcA16 w => [0xD2, loByte w, hiByte w]
  | .illegalD3 => [0xD3]
  | .callNcA16 w => [0xD4, loByte w, hiByte w]
  | .pushDe => [0xD5]
  | .subD8 n => [0xD6, n]
  | .rst10 => [0xD7]
  | .retC => [0xD8]
  | .reti => [0xD9]
  | .jpCA16 w => [0xDA, loByte w, hiByte w]
  | .illegalDB => [0xDB]
  | .callCA16 w => [0xDC, loByte w, hiByte w]
  | .illegalDD => [0xDD]
  | .sbcAD8 n => [0xDE, n]
  | .rst18 => [0xDF]
  | .ldhIndA8A n => [0xE0, n]
  | .popHl => [0xE1]
  | .ldIndCA => [0xE2]
  | .illegalE3 => [0xE3]
  | .illegalE4 => [0xE4]
  | .pushHl => [0xE5]
  | .andD8 n => [0xE6, n]
  | .rst20 => [0xE7]
  | .addSpE8 e => [0xE8, e]
  | .jpHl => [0xE9]
  | .ldIndA16A w => [0xEA, loByte w, hiByte w]
  | .illegalEB => [0xEB]
  | .illegalEC => [0xEC]
  | .illegalED => [0xED]
  | .xorD8 n => [0xEE, n]
  | .rst28 => [0xEF]
  | .ldhAIndA8 n => [0xF0, n]
  | .popAf => [0xF1]
  | .ldAIndC => [0xF2]
  | .di => [0xF3]
  | .illegalF4 => [0xF4]
  | .pushAf => [0xF5]
  | .orD8 n => [0xF6, n]
  | .rst30 => [0xF7]
  | .ldHlSpE8 e => [0xF8, e]
  | .ldSpHl => [0xF9]
  | .ldAIndA16 w => [0xFA, loByte w, hiByte w]
  | .ei => [0xFB]
  | .illegalFC => [0xFC]
  | .illegalFD => [0xFD]
  | .cpD8 n => [0xFE, n]
  | .rst38 => [0xFF]
  | .cbRlcB => [0xCB, 0x00]
  | .cbRlcC => [0xCB, 0x01]
  | .cbRlcD => [0xCB, 0x02]
  | .cbRlcE => [0xCB, 0x03]
  | .cbRlcH => [0xCB, 0x04]
  | .cbRlcL => [0xCB, 0x05]
  | .cbRlcIndHl => [0xCB, 0x06]
  | .cbRlcA => [0xCB, 0x07]
  | .cbRrcB => [0xCB, 0x08]
  | .cbRrcC => [0xCB, 0x09]
  | .cbRrcD => [0xCB, 0x0A]
  | .cbRrcE => [0xCB, 0x0B]
  | .cbRrcH => [0xCB, 0x0C]
  | .cbRrcL => [0xCB, 0x0D]
  | .cbRrcIndHl => [0xCB, 0x0E]
  | .cbRrcA => [0xCB, 0x0F]
  | .cbRlB => [0xCB, 0x10]
  | .cbRlC => [0xCB, 0x11]
  | .cbRlD => [0xCB, 0x12]
  | .cbRlE => [0xCB, 0x13]
  | .cbRlH => [0xCB, 0x14]
  | .cbRlL => [0xCB, 0x15]
  | .cbRlIndHl => [0xCB, 0x16]
  | .cbRlA => [0xCB, 0x17]
  | .cbRrB => [0xCB, 0x18]
  | .cbRrC => [0xCB, 0x19]
  | .cbRrD => [0xCB, 0x1A]
  | .cbRrE => [0xCB, 0x1B]
  | .cbRrH => [0xCB, 0x1C]
  | .cbRrL => [0xCB, 0x1D]
  | .cbRrIndHl => [0xCB, 0x1E]
  | .cbRrA => [0xCB, 0x1F]
  | .cbSlaB => [0xCB, 0x20]
  | .cbSlaC => [0xCB, 0x21]
  | .cbSlaD => [0xCB, 0x22]
  | .cbSlaE => [0xCB, 0x23]
  | .cbSlaH => [0xCB, 0x24]
  | .cbSlaL => [0xCB, 0x25]
  | .cbSlaIndHl => [0xCB, 0x26]
  | .cbSlaA => [0xCB, 0x27]
  | .cbSraB => [0xCB, 0x28]
  | .cbSraC => [0xCB, 0x29]
  | .cbSraD => [0xCB, 0x2A]
  | .cbSraE => [0xCB, 0x2B]
  | .cbSraH => [0xCB, 0x2C]
  | .cbSraL => [0xCB, 0x2D]
  | .cbSraIndHl => [0xCB, 0x2E]
  | .cbSraA => [0xCB, 0x2F]
  | .cbSwapB => [0xCB, 0x30]
  | .cbSwapC => [0xCB, 0x31]
  | .cbSwapD => [0xCB, 0x32]
  | .cbSwapE => [0xCB, 0x33]
  | .cbSwapH => [0xCB, 0x34]
  | .cbSwapL => [0xCB, 0x35]
  | .cbSwapIndHl => [0xCB, 0x36]
  | .cbSwapA => [0xCB, 0x37]
  | .cbSrlB => [0xCB, 0x38]
  | .cbSrlC => [0xCB, 0x39]
  | .cbSrlD => [0xCB, 0x3A]
  | .cbSrlE => [0xCB, 0x3B]
  | .cbSrlH => [0xCB, 0x3C]
  | .cbSrlL => [0xCB, 0x3D]
  | .cbSrlIndHl => [0xCB, 0x3E]
  | .cbSrlA => [0xCB, 0x3F]
  | .cbBit0B => [0xCB, 0x40]
  | .cbBit0C => [0xCB, 0x41]
  | .cbBit0D => [0xCB, 0x42]
  | .cbBit0E => [0xCB, 0x43]
  | .cbBit0H => [0xCB, 0x44]
  | .cbBit0L => [0xCB, 0x45]
  | .cbBit0IndHl => [0xCB, 0x46]
  | .cbBit0A => [0xCB, 0x47]
  | .cbBit1B => [0xCB, 0x48]
  | .cbBit1C => [0xCB, 0x49]
  | .cbBit1D => [0xCB, 0x4A]
  | .cbBit1E => [0xCB, 0x4B]
  | .cbBit1H => [0xCB, 0x4C]
  | .cbBit1L => [0xCB, 0x4D]
  | .cbBit1IndHl => [0xCB, 0x4E]
  | .cbBit1A => [0xCB, 0x4F]
  | .cbBit2B => [0xCB, 0x50]
  | .cbBit2C => [0xCB, 0x51]
  | .cbBit2D => [0xCB, 0x52]
  | .cbBit2E => [0xCB, 0x53]
  | .cbBit2H => [0xCB, 0x54]
  | .cbBit2L => [0xCB, 0x55]
  | .cbBit2IndHl => [0xCB, 0x56]
  | .cbBit2A => [0xCB, 0x57]
  | .cbBit3B => [0xCB, 0x58]
  | .cbBit3C => [0xCB, 0x59]
  | .cbBit3D => [0xCB, 0x5A]
  | .cbBit3E => [0xCB, 0x5B]
  | .cbBit3H => [0xCB, 0x5C]
  | .cbBit3L => [0xCB, 0x5D]
  | .cbBit3IndHl => [0xCB, 0x5E]
  | .cbBit3A => [0xCB, 0x5F]
  | .cbBit4B => [0xCB, 0x60]
  | .cbBit4C => [0xCB, 0x61]
  | .cbBit4D => [0xCB, 0x62]
  | .cbBit4E => [0xCB, 0x63]
  | .cbBit4H => [0xCB, 0x64]
  | .cbBit4L => [0xCB, 0x65]
  | .cbBit4IndHl => [0xCB, 0x66]
  | .cbBit4A => [0xCB, 0x67]
  | .cbBit5B => [0xCB, 0x68]
  | .cbBit5C => [0xCB, 0x69]
  | .cbBit5D => [0xCB, 0x6A]
  | .cbBit5E => [0xCB, 0x6B]
  | .cbBit5H => [0xCB, 0x6C]
  | .cbBit5L => [0xCB, 0x6D]
  | .cbBit5IndHl => [0xCB, 0x6E]
  | .cbBit5A => [0xCB, 0x6F]
  | .cbBit6B => [0xCB, 0x70]
  | .cbBit6C => [0xCB, 0x71]
  | .cbBit6D => [0xCB, 0x72]
  | .cbBit6E => [0xCB, 0x73]
  | .cbBit6H => [0xCB, 0x74]
  | .cbBit6L => [0xCB, 0x75]
  | .cbBit6IndHl => [0xCB, 0x76]
  | .cbBit6A => [0xCB, 0x77]
  | .cbBit7B => [0xCB, 0x78]
  | .cbBit7C => [0xCB, 0x79]
  | .cbBit7D => [0xCB, 0x7A]
  | .cbBit7E => [0xCB, 0x7B]
  | .cbBit7H => [0xCB, 0x7C]
  | .cbBit7L => [0xCB, 0x7D]
  | .cbBit7IndHl => [0xCB, 0x7E]
  | .cbBit7A => [0xCB, 0x7F]
  | .cbRes0B => [0xCB, 0x80]
  | .cbRes0C => [0xCB, 0x81]
  | .cbRes0D => [0xCB, 0x82]
  | .cbRes0E => [0xCB, 0x83]
  | .cbRes0H => [0xCB, 0x84]
  | .cbRes0L => [0xCB, 0x85]
  | .cbRes0IndHl => [0xCB, 0x86]
  | .cbRes0A => [0xCB, 0x87]
  | .cbRes1B => [0xCB, 0x88]
  | .cbRes1C => [0xCB, 0x89]
  | .cbRes1D => [0xCB, 0x8A]
  | .cbRes1E => [0xCB, 0x8B]
  | .cbRes1H => [0xCB, 0x8C]
  | .cbRes1L => [0xCB, 0x8D]
  | .cbRes1IndHl => [0xCB, 0x8E]
  | .cbRes1A => [0xCB, 0x8F]
  | .cbRes2B => [0xCB, 0x90]
  | .cbRes2C => [0xCB, 0x91]
  | .cbRes2D => [0xCB, 0x92]
  | .cbRes2E => [0xCB, 0x93]
  | .cbRes2H => [0xCB, 0x94]
  | .cbRes2L => [0xCB, 0x95]
  | .cbRes2IndHl => [0xCB, 0x96]
  | .cbRes2A => [0xCB, 0x97]
  | .cbRes3B => [0xCB, 0x98]
  | .cbRes3C => [0xCB, 0x99]
  | .cbRes3D => [0xCB, 0x9A]
  | .cbRes3E => [0xCB, 0x9B]
  | .cbRes3H => [0xCB, 0x9C]
  | .cbRes3L => [0xCB, 0x9D]
  | .cbRes3IndHl => [0xCB, 0x9E]
  | .cbRes3A => [0xCB, 0x9F]
  | .cbRes4B => [0xCB, 0xA0]
  | .cbRes4C => [0xCB, 0xA1]
  | .cbRes4D => [0xCB, 0xA2]
  | .cbRes4E => [0xCB, 0xA3]
  | .cbRes4H => [0xCB, 0xA4]
  | .cbRes4L => [0xCB, 0xA5]
  | .cbRes4IndHl => [0xCB, 0xA6]
  | .cbRes4A => [0xCB, 0xA7]
  | .cbRes5B => [0xCB, 0xA8]
  | .cbRes5C => [0xCB, 0xA9]
  | .cbRes5D => [0xCB, 0xAA]
  | .cbRes5E => [0xCB, 0xAB]
  | .cbRes5H => [0xCB, 0xAC]
  | .cbRes5L => [0xCB, 0xAD]
  | .cbRes5IndHl => [0xCB, 0xAE]
  | .cbRes5A => [0xCB, 0xAF]
  | .cbRes6B => [0xCB, 0xB0]
  | .cbRes6C => [0xCB, 0xB1]
  | .cbRes6D => [0xCB, 0xB2]
  | .cbRes6E => [0xCB, 0xB3]
  | .cbRes6H => [0xCB, 0xB4]
  | .cbRes6L => [0xCB, 0xB5]
  | .cbRes6IndHl => [0xCB, 0xB6]
  | .cbRes6A => [0xCB, 0xB7]
  | .cbRes7B => [0xCB, 0xB8]
  | .cbRes7C => [0xCB, 0xB9]
  | .cbRes7D => [0xCB, 0xBA]
  | .cbRes7E => [0xCB, 0xBB]
  | .cbRes7H => [0xCB, 0xBC]
  | .cbRes7L => [0xCB, 0xBD]
  | .cbRes7IndHl => [0xCB, 0xBE]
  | .cbRes7A => [0xCB, 0xBF]
  | .cbSet0B => [0xCB, 0xC0]
  | .cbSet0C => [0xCB, 0xC1]
  | .cbSet0D => [0xCB, 0xC2]
  | .cbSet0E => [0xCB, 0xC3]
  | .cbSet0H => [0xCB, 0xC4]
  | .cbSet0L => [0xCB, 0xC5]
  | .cbSet0IndHl => [0xCB, 0xC6]
  | .cbSet0A => [0xCB, 0xC7]
  | .cbSet1B => [0xCB, 0xC8]
  | .cbSet1C => [0xCB, 0xC9]
  | .cbSet1D => [0xCB, 0xCA]
  | .cbSet1E => [0xCB, 0xCB]
  | .cbSet1H => [0xCB, 0xCC]
  | .cbSet1L => [0xCB, 0xCD]
  | .cbSet1IndHl => [0xCB, 0xCE]
  | .cbSet1A => [0xCB, 0xCF]
  | .cbSet2B => [0xCB, 0xD0]
  | .cbSet2C => [0xCB, 0xD1]
  | .cbSet2D => [0xCB, 0xD2]
  | .cbSet2E => [0xCB, 0xD3]
  | .cbSet2H => [0xCB, 0xD4]
  | .cbSet2L => [0xCB, 0xD5]
  | .cbSet2IndHl => [0xCB, 0xD6]
  | .cbSet2A => [0xCB, 0xD7]
  | .cbSet3B => [0xCB, 0xD8]
  | .cbSet3C => [0xCB, 0xD9]
  | .cbSet3D => [0xCB, 0xDA]
  | .cbSet3E => [0xCB, 0xDB]
  | .cbSet3H => [0xCB, 0xDC]
  | .cbSet3L => [0xCB, 0xDD]
  | .cbSet3IndHl => [0xCB, 0xDE]
  | .cbSet3A => [0xCB, 0xDF]
  | .cbSet4B => [0xCB, 0xE0]
  | .cbSet4C => [0xCB, 0xE1]
  | .cbSet4D => [0xCB, 0xE2]
  | .cbSet4E => [0xCB, 0xE3]
  | .cbSet4H => [0xCB, 0xE4]
  | .cbSet4L => [0xCB, 0xE5]
  | .cbSet4IndHl => [0xCB, 0xE6]
  | .cbSet4A => [0xCB, 0xE7]
  | .cbSet5B => [0xCB, 0xE8]
  | .cbSet5C => [0xCB, 0xE9]
  | .cbSet5D => [0xCB, 0xEA]
  | .cbSet5E => [0xCB, 0xEB]
  | .cbSet5H => [0xCB, 0xEC]
  | .cbSet5L => [0xCB, 0xED]
  | .cbSet5IndHl => [0xCB, 0xEE]
  | .cbSet5A => [0xCB, 0xEF]
  | .cbSet6B => [0xCB, 0xF0]
  | .cbSet6C => [0xCB, 0xF1]
  | .cbSet6D => [0xCB, 0xF2]
  | .cbSet6E => [0xCB, 0xF3]
  | .cbSet6H => [0xCB, 0xF4]
  | .cbSet6L => [0xCB, 0xF5]
  | .cbSet6IndHl => [0xCB, 0xF6]
  | .cbSet6A => [0xCB, 0xF7]
  | .cbSet7B => [0xCB, 0xF8]
  | .cbSet7C => [0xCB, 0xF9]
  | .cbSet7D => [0xCB, 0xFA]
  | .cbSet7E => [0xCB, 0xFB]
  | .cbSet7H => [0xCB, 0xFC]
  | .cbSet7L => [0xCB, 0xFD]
  | .cbSet7IndHl => [0xCB, 0xFE]
  | .cbSet7A => [0xCB, 0xFF]

/-! ## The opcode table's words -/

/-- The bytes of a table word, in stream order, up to the longest instruction. Bit 0 is the least significant bit of the
first byte and a later byte's bits count on from it; a word whose bits 15..8 are 0xCB is a row of the secondary table,
which the table numbers over `0xCB ++ byte 1` (R156; notes/assumptions/5.md). -/
def tableBytes (nbits w : Nat) : List Byte :=
  if nbits = 16 ∧ w / 256 % 256 = 0xCB then [0xCB, BitVec.ofNat 8 w, 0]
  else [BitVec.ofNat 8 w, BitVec.ofNat 8 (w / 256), BitVec.ofNat 8 (w / 65536)]

/-- The instruction the decoder reads from a table word, every bit above the word zero. -/
def decodeTableWord (nbits w : Nat) : Option Instr :=
  match decode (tableBytes nbits w) with
  | .ok i _ => some i
  | .rejected _ => none

end Sys2Proof
end

