-- ==== Sys2Proof/Machine/System.lean ====
section
/-! DEFINITION. System instructions (45_system.md): NOP, HALT, STOP, DI, EI, the 0xCB byte and the 11 illegal bytes. -/

namespace Sys2Proof.Machine

/-- An illegal opcode raises Fatal: the record, and no tick (R368, R391). -/
def fatalStop (opcode : Byte) (s : State) : Answer := .next (s.raiseFatal opcode)

/-- "execute CB rule of op2" (R145), by the fields of the second byte (R285). -/
def cbByte (op2 : Byte) (s : State) : Answer :=
  match op2.toNat / 64 with
  | 0 => rotOpnd (fieldY op2).rot (fieldZ op2).opnd s
  | 1 => bitOpnd (fieldY op2) (fieldZ op2).opnd s
  | 2 => resOpnd (fieldY op2) (fieldZ op2).opnd s
  | _ => setOpnd (fieldY op2) (fieldZ op2).opnd s

/-! ## One meaning per row -/

/-- NOP (R361). -/
def execNop (s : State) : Answer :=
  s.done 4

/-- STOP (R363). -/
def execStop (_ignored : Byte) (s : State) : Answer :=
  State.done { s with stopped := true } 4

/-- HALT (R362). -/
def execHalt (s : State) : Answer :=
  State.done { s with halted := true } 4

/-- PREFIX CB (R366). -/
def execPrefixCb (op2 : Byte) (s : State) : Answer :=
  cbByte op2 s

/-- ILLEGAL D3 (R368). -/
def execIllegalD3 (s : State) : Answer :=
  fatalStop 0xD3 s

/-- ILLEGAL DB (R368). -/
def execIllegalDB (s : State) : Answer :=
  fatalStop 0xDB s

/-- ILLEGAL DD (R368). -/
def execIllegalDD (s : State) : Answer :=
  fatalStop 0xDD s

/-- ILLEGAL E3 (R368). -/
def execIllegalE3 (s : State) : Answer :=
  fatalStop 0xE3 s

/-- ILLEGAL E4 (R368). -/
def execIllegalE4 (s : State) : Answer :=
  fatalStop 0xE4 s

/-- ILLEGAL EB (R368). -/
def execIllegalEB (s : State) : Answer :=
  fatalStop 0xEB s

/-- ILLEGAL EC (R368). -/
def execIllegalEC (s : State) : Answer :=
  fatalStop 0xEC s

/-- ILLEGAL ED (R368). -/
def execIllegalED (s : State) : Answer :=
  fatalStop 0xED s

/-- DI (R364). -/
def execDi (s : State) : Answer :=
  State.done { s with ime := false, eiDelay := 0 } 4

/-- ILLEGAL F4 (R368). -/
def execIllegalF4 (s : State) : Answer :=
  fatalStop 0xF4 s

/-- EI (R365). -/
def execEi (s : State) : Answer :=
  State.done { s with eiDelay := 2 } 4

/-- ILLEGAL FC (R368). -/
def execIllegalFC (s : State) : Answer :=
  fatalStop 0xFC s

/-- ILLEGAL FD (R368). -/
def execIllegalFD (s : State) : Answer :=
  fatalStop 0xFD s

end Sys2Proof.Machine
end

