-- ==== Sys2Proof/Machine/Timer.lean ====
section
/-! DEFINITION. The divider and the timer (60_exceptions.md section 4). -/

namespace Sys2Proof.Machine

/-- `TAC_PERIOD[TAC[1:0]]` (R423). -/
def tacPeriod (tac : Byte) : Nat :=
  match field tac 0 2 with
  | 0 => 1024
  | 1 => 16
  | 2 => 64
  | _ => 256

/-- The divider advanced by `d` ticks: DIV increments modulo 256 once every 256 ticks (R421, R425). -/
def State.advanceDivider (s : State) (d : Nat) : State :=
  let total := s.divCount + d
  { s.poke 0xFF04 (s.peek 0xFF04 + BitVec.ofNat 8 (total / 256)) with divCount := total % 256 }

/-- One timer increment (R424). -/
def State.timerIncrement (s : State) : State :=
  if s.peek 0xFF05 = 0xFF then (s.poke 0xFF05 (s.peek 0xFF06)).raiseIrq .timer
  else s.poke 0xFF05 (s.peek 0xFF05 + 1)

/-- The timer advanced by `d` ticks: every increment applied one by one, nothing while TAC bit 2 is 0 (R424, R425). -/
def State.advanceTimer (s : State) (d : Nat) : State :=
  if bitOf (s.peek 0xFF07) 2 then
    let period := tacPeriod (s.peek 0xFF07)
    let total := s.timaCount + d
    { repeatN State.timerIncrement (total / period) s with timaCount := total % period }
  else s

/-- `advance_timers(d)` (R425). -/
def State.advanceTimers (s : State) (d : Nat) : State := (s.advanceDivider d).advanceTimer d

end Sys2Proof.Machine
end

