-- ==== Sys2Proof/Machine/Interp.lean ====
section
/-! DEFINITION. The phases of `Interpreter.step()` (R145), the machine step (R71), and where a fetched byte lies. -/

namespace Sys2Proof.Machine

/-- Phase 1: a pending enabled source ends HALT, and with IME set is entered (R401, R402). -/
def State.interruptPhase (s : State) : State :=
  let s1 := if s.pending ≠ 0 then { s with halted := false } else s
  if s1.ime then
    match firstIrq s1.pending with
    | some k => s1.enterInterrupt k
    | none => s1
  else s1

/-- Phase 2 applies: nothing is fetched (R145, R443). -/
def State.idle (s : State) : Bool := s.halted || s.stopped

/-- The three bytes at PC, in stream order (R146). Reads have no side effect (R87), so reading bytes the instruction does
not have changes nothing. -/
def State.fetchBytes (s : State) : List Byte :=
  [s.memRead s.regs.pc, s.memRead (s.regs.pc + 1), s.memRead (s.regs.pc + 2)]

/-- The instruction at PC. -/
def State.fetchInstr (s : State) : Instr :=
  decodeBytes (s.memRead s.regs.pc) (s.memRead (s.regs.pc + 1)) (s.memRead (s.regs.pc + 2))

/-- The length of the instruction at PC (R153). -/
def State.fetchLength (s : State) : Nat := opcodeLength (s.memRead s.regs.pc)

/-- PC advanced past `n` fetched bytes, modulo 65536 (R146). -/
def State.pastFetch (s : State) (n : Nat) : State := s.setPc (s.regs.pc + BitVec.ofNat 16 n)

/-- The post-instruction EI rule (R367). -/
def State.eiRule (s : State) : State :=
  match s.eiDelay with
  | 0 => s
  | 1 => { s with eiDelay := 0, ime := true }
  | n + 2 => { s with eiDelay := n + 1 }

/-- Phase 4: divider and timer advanced by what the step added to `t0`, and the step counted (R145, R425). -/
def State.endStep (s : State) (t0 : Nat) : State :=
  let s1 := s.advanceTimers (s.ticks - t0)
  { s1 with steps := s1.steps + 1 }

/-- Phases 3 and 4 after the instruction's effect: a fatal instruction ends the step at once (R391). -/
def State.afterExec (s : State) (t0 : Nat) : State := if s.fatal.isSome then s else s.eiRule.endStep t0

/-- A state transformation applied to an answer that goes on. -/
def onNext (f : State → State) (r : Answer) : Answer :=
  match r with
  | .next t => .next (f t)
  | .fault e => .fault e
  | .refused e => .refused e

/-- `Interpreter.step()` (R145). -/
def State.interpStep (s : State) : Answer :=
  let s1 := s.interruptPhase
  if s1.idle then .next ((s1.tick 4).endStep s.ticks)
  else onNext (fun t => t.afterExec s.ticks) (exec s1.fetchInstr (s1.pastFetch s1.fetchLength))

/-- `PixelPipeline.step()` in a machine step: not taken when the Interpreter step was fatal (R71, R391). -/
def State.ppuPhase (s : State) : State := if s.fatal.isSome then s else s.ppuStep

/-- The machine step (R71): from a fatal state there is none. -/
def State.machineStep (s : State) : Answer :=
  match s.fatal with
  | some r => .fault (.fatalStopped r.opcode r.steps)
  | none => onNext State.ppuPhase s.interpStep

/-! ## Placing a byte where it is fetched from -/

/-- `v` stored where `MemRead(a, 1)` reads it from: the boot ROM under the overlay, the cartridge image, the external RAM
when accessible, else the backing store (with its echo). It stands for the load of an image from outside (R561), not for
a bus write. -/
def State.placeByte (s : State) (a : Word) (v : Byte) : State :=
  let n := a.toNat
  if (s.overlayByte n).isSome then
    { s with params := { s.params with bootRom := s.params.bootRom.map (fun rom => rom.setIfInBounds n v) } }
  else if n ≤ 0x7FFF then
    { s with params := { s.params with rom := Memory.write .rom s.params.rom (s.romIndex n) v } }
  else if 0xA000 ≤ n ∧ n ≤ 0xBFFF then s.eramWrite n v
  else
    match echoAlias n with
    | some e => (s.poke n v).poke e v
    | none => s.poke n v

/-- The bytes placed from address `a` upward. -/
def State.placeBytes (s : State) (a : Word) (bytes : List Byte) : State :=
  match bytes with
  | [] => s
  | v :: rest => (s.placeByte a v).placeBytes (a + 1) rest

/-- Nothing stands between the next step and its fetch: not fatal, not halted or stopped, no interrupt to take. -/
def State.readyToFetch (s : State) : State :=
  { s with fatal := none, halted := false, stopped := false, ime := s.ime && decide (s.pending = 0) }

end Sys2Proof.Machine
end

