-- ==== Sys2Proof/Machine/Step.lean ====
section
/-! DEFINITION. The step of the machine, and an instruction placed where the next step fetches it. -/

namespace Sys2Proof.Machine

/-- One machine step (R71): `Interpreter.step()`, then `PixelPipeline.step()`. -/
def step (s : State) : Host.Outcome State Fault Refusal := s.machineStep

/-- The state with the instruction of a table word at PC, so that the next step runs it (notes/assumptions/4.md). -/
def State.withFetchWord (s : State) (nbits w : Nat) : State :=
  s.readyToFetch.placeBytes s.regs.pc (tableBytes nbits w)

end Sys2Proof.Machine
end

