-- ==== Sys2Proof/Machine/Host.lean ====
section
/-! DEFINITION. The host's operations (R71, R576): everything the outside does to the core, each between machine steps,
and a run of the machine under a host's schedule. -/

namespace Sys2Proof.Machine

/-- Set the button states (R41); nothing is raised (R398). -/
def State.setButtons (s : State) (b : Buttons) : State := { s with buttons := b }

/-- The key-press event (R437). -/
def State.keyPress (s : State) : State := State.raiseIrq { s with stopped := false } .joypad

/-- `consume_frame()`: the flag returned (R459). -/
def State.frameFlag (s : State) : Bool := s.ppu.frameReady

/-- `consume_frame()`: the state after it (R459). -/
def State.consumeFrame (s : State) : State := { s with ppu := { s.ppu with frameReady := false } }

/-- The operations of R576 that act on the core. Reading the framebuffer and the fatal record is reading the state. -/
inductive HostOp where
  | machineStep
  | coldBoot (p : Params)
  | setButtons (b : Buttons)
  | keyPress
  | render (ms : Nat)
  | consumeFrame
deriving DecidableEq, Repr

/-- What an operation returns to the host. -/
inductive HostReply where
  | nothing
  | samples (out : List (Nat × Nat))
  | frame (ready : Bool)
deriving DecidableEq, Repr

/-- What one operation returns, from the state before it. -/
def HostOp.reply (op : HostOp) (s : State) : HostReply :=
  match op with
  | .machineStep => .nothing
  | .coldBoot _ => .nothing
  | .setButtons _ => .nothing
  | .keyPress => .nothing
  | .render ms => .samples (s.render ms).2
  | .consumeFrame => .frame s.frameFlag

/-- The state after one operation. -/
def HostOp.apply (op : HostOp) (s : State) : Answer :=
  match op with
  | .machineStep => step s
  | .coldBoot p => .next (.coldBoot p)
  | .setButtons b => .next (s.setButtons b)
  | .keyPress => .next s.keyPress
  | .render ms => .next (s.render ms).1
  | .consumeFrame => .next s.consumeFrame

/-- The stereo samples in a reply. -/
def HostReply.sampleList (r : HostReply) : List (Nat × Nat) :=
  match r with
  | .nothing => []
  | .samples out => out
  | .frame _ => []

/-- Why a run is over (R577). -/
inductive RunEnd where
  /-- The host's schedule is done: the host stops stepping. -/
  | hostStopped
  /-- The machine reached the fatal state. -/
  | fatal (record : FatalRecord)
  /-- A step was refused or faulted though there is no fatal record; no state does this (R578: "No operation retries,
  times out or blocks"). -/
  | blocked
deriving DecidableEq, Repr

/-- A run's observable result (R577): the state it ends in, with the framebuffer, the frame flag and the fatal record in it,
what each operation returned to the host, in order, and why the run is over. -/
structure RunResult where
  state   : State
  replies : List HostReply
  ending  : RunEnd
deriving DecidableEq, Repr

/-- The samples that the renders of a run returned, in order (R541, R577). -/
def RunResult.samples (r : RunResult) : List (Nat × Nat) := r.replies.flatMap HostReply.sampleList

/-- The end of a run in a state, with nothing more done. -/
def RunResult.endAt (s : State) : RunResult :=
  { state := s, replies := [], ending := match s.fatal with | some r => .fatal r | none => .hostStopped }

/-- A run's result with one more reply before it. -/
def RunResult.after (reply : HostReply) (r : RunResult) : RunResult := { r with replies := reply :: r.replies }

/-- A host's schedule run from a state (R577, R578). The run ends when the schedule is done or when the machine reaches the
fatal state, after which no further operation of it is taken (a cold boot begins another run; notes/assumptions/8.md). -/
def drive (ops : List HostOp) (s : State) : RunResult :=
  match ops with
  | [] => .endAt s
  | op :: rest =>
    if s.fatal.isSome then .endAt s
    else
      match op.apply s with
      | .next t => (drive rest t).after (op.reply s)
      | .fault _ => { state := s, replies := [], ending := .blocked }
      | .refused _ => { state := s, replies := [], ending := .blocked }

end Sys2Proof.Machine
end

