-- ==== Sys2Proof/Safety.lean ====
section
/-! DEFINITION. What counts as a safe state, in the terms claims use: the invariants of the spec's state (10_state.md), one
named predicate each; the bytes a bus write can reach; and a run in which every step is taken. -/

namespace Sys2Proof.Machine

/-! ## Invariants -/

/-- The backing store and the external RAM are in canonical form, so that equal contents are equal data. -/
def State.memoryForm (s : State) : Prop := Memory.wf .bus s.mem = true ∧ Memory.wf .eram s.eram = true

/-- The echo invariant of R100: `mem[a] = mem[a + 0x2000]` for every `a` in 0xC000..0xDDFF. -/
def State.echoForm (s : State) : Prop := ∀ a, 0xC000 ≤ a → a ≤ 0xDDFF → s.peek a = s.peek (a + 0x2000)

/-- The stored bytes of JOYP hold bits 5..4 only, those of STAT bits 7..3 only (R42, R60). -/
def State.storedBitsForm (s : State) : Prop := s.peek 0xFF00 &&& 0xCF = 0 ∧ s.peek 0xFF41 &&& 0x07 = 0

/-- "The low 4 bits of the flag byte are always zero" (R24). -/
def State.flagForm (s : State) : Prop := s.regs.f &&& 0x0F = 0

/-- `ei_delay` is 0, 1 or 2 (R27), and the core is never halted and stopped at once (R443). -/
def State.controlForm (s : State) : Prop := s.eiDelay ≤ 2 ∧ ¬ (s.halted = true ∧ s.stopped = true)

/-- The sub-counts are under their periods (R32, R425). -/
def State.timerForm (s : State) : Prop := s.divCount < 256 ∧ s.timaCount < tacPeriod (s.peek 0xFF07)

/-- `bank_lo` is never 0 (R36, R96). -/
def State.bankForm (s : State) : Prop := s.mbc.bankLo ≠ 0

/-- The scanline is 0..153, the mode is V-blank exactly on lines 144..153 (R39, R452, R456), the budget left is under the
mode's duration, and the PPU has seen every tick unless the run has ended (R451, R391). -/
def State.ppuForm (s : State) : Prop :=
  s.ppu.line ≤ 153 ∧ (s.ppu.mode = .vblank ↔ 144 ≤ s.ppu.line) ∧ s.ppu.budget < s.ppu.mode.duration ∧
    s.ppu.last ≤ s.ticks ∧ (s.fatal = none → s.ppu.last = s.ticks)

/-- The fatal record holds the number of steps that completed (R30, R391). -/
def State.fatalForm (s : State) : Prop := ∀ r, s.fatal = some r → r.steps = s.steps

/-- An active channel's counters have not run out (R510, R515). -/
def Voice.live (v : Voice) : Prop := v.active = true → 0 < v.timer ∧ (v.bounded = true → 0 < v.lenLeft)

/-- An active channel's envelope has not run out (R516). -/
def Envelope.liveFor (v : Voice) (e : Envelope) : Prop := v.active = true → e.period ≠ 0 → 0 < e.left

/-- The audio counters (R40, R510, R515, R516) and the carried fraction of a sample (R541). -/
def State.apuForm (s : State) : Prop :=
  s.apu.ch1.voice.live ∧ s.apu.ch2.voice.live ∧ s.apu.ch3.voice.live ∧ s.apu.ch4.voice.live ∧
    s.apu.ch1.env.liveFor s.apu.ch1.voice ∧ s.apu.ch2.env.liveFor s.apu.ch2.voice ∧
    s.apu.ch4.env.liveFor s.apu.ch4.voice ∧ s.apu.sampleFrac < 1000

/-- All the invariants together. -/
structure State.Inv (s : State) : Prop where
  memory     : s.memoryForm
  echo       : s.echoForm
  storedBits : s.storedBitsForm
  flags      : s.flagForm
  control    : s.controlForm
  timer      : s.timerForm
  bank       : s.bankForm
  ppu        : s.ppuForm
  fatal      : s.fatalForm
  apu        : s.apuForm

/-! ## What a bus write can reach -/

/-- Reading address `b` may answer differently after a bus write to address `a`: the byte itself, its echo (R100), STAT's
bit 2 after a write to LYC (R60), OAM after a write to DMA (R102), the boot overlay after a write to BOOT (R90), the
switchable windows after a write to the bank registers (R95 to R98); a write to LY reaches nothing (R62). -/
def writeReaches (a b : Nat) : Bool :=
  if a ≤ 0x7FFF then (decide (0x4000 ≤ b) && decide (b ≤ 0x7FFF)) || (decide (0xA000 ≤ b) && decide (b ≤ 0xBFFF))
  else if a = 0xFF44 then false
  else decide (b = a) || decide (echoAlias a = some b) || (decide (a = 0xFF45) && decide (b = 0xFF41))
    || (decide (a = 0xFF46) && decide (0xFE00 ≤ b) && decide (b ≤ 0xFE9F)) || (decide (a = 0xFF50) && decide (b ≤ 0x00FF))

/-! ## Runs -/

/-- The core can take a step: it has no fatal record (R71). -/
def State.Running (s : State) : Prop := s.fatal = none

/-- `n` machine steps are all taken from `s` (R71, R72). -/
def SafeRun (n : Nat) (s : State) : Prop :=
  match n with
  | 0 => True
  | n + 1 => ∃ t, step s = .next t ∧ SafeRun n t

end Sys2Proof.Machine
end

