-- ==== Sys2Proof/Certificates/Slice0/Obligations.lean ====
section
/-! DEFINITION. The statements for the provers. Each formalises rules of spec/ named in its docstring. The terms of the
spec's notation (00_scope.md section 5) that the statements share come first, written from the spec and not from the
model's own functions. -/

namespace Sys2Proof.Spec

open Sys2Proof.Machine

/-- F from its four flags: Z = 0x80, N = 0x40, H = 0x20, C = 0x10, bits 3..0 zero (R24). -/
def flagByte (z n h c : Bool) : Byte := BitVec.ofNat 8 (z.toNat * 128 + n.toNat * 64 + h.toNat * 32 + c.toNat * 16)

/-- `F.Z` (R24). -/
def zf (s : State) : Bool := s.regs.f.getLsbD 7

/-- `F.N` (R24). -/
def nf (s : State) : Bool := s.regs.f.getLsbD 6

/-- `F.H` (R24). -/
def hf (s : State) : Bool := s.regs.f.getLsbD 5

/-- `F.C` (R24). -/
def cf (s : State) : Bool := s.regs.f.getLsbD 4

/-- `c`: F.C as 0 or 1. -/
def carry (s : State) : Nat := (cf s).toNat

/-- An opcode byte. -/
def opc (n : Nat) : Byte := BitVec.ofNat 8 n

/-- The condition of R321. -/
def taken (s : State) (cc : Cond) : Bool :=
  match cc with
  | .nz => !zf s
  | .z => zf s
  | .nc => !cf s
  | .c => cf s

/-- The 11 illegal bytes (R151). -/
def illegalBytes : List Byte := [0xD3, 0xDB, 0xDD, 0xE3, 0xE4, 0xEB, 0xEC, 0xED, 0xF4, 0xFC, 0xFD]

/-- The 2-byte opcodes (R153). -/
def twoByteOpcodes : List Byte :=
  [0xCB, 0x10, 0x06, 0x0E, 0x16, 0x1E, 0x26, 0x2E, 0x36, 0x3E, 0x18, 0x20, 0x28, 0x30, 0x38]
    ++ [0xC6, 0xCE, 0xD6, 0xDE, 0xE6, 0xEE, 0xF6, 0xFE, 0xE0, 0xF0, 0xE8, 0xF8]

/-- The 3-byte opcodes (R153). -/
def threeByteOpcodes : List Byte :=
  [0x01, 0x11, 0x21, 0x31, 0x08, 0xC2, 0xC3, 0xCA, 0xD2, 0xDA, 0xC4, 0xCC, 0xCD, 0xD4, 0xDC, 0xEA, 0xFA]

/-- The length of an instruction from byte 0 (R153). -/
def instrLength (b : Byte) : Nat :=
  if b ∈ twoByteOpcodes then 2 else if b ∈ threeByteOpcodes then 3 else 1

/-- The bytes start with the encoding of `i`, which is `len` bytes long: the decoder reads `i` and leaves the rest. -/
def reads (len : Nat) (bytes : List Byte) (i : Instr) : Prop := decode bytes = .ok i (bytes.drop len)

/-- The cost of a CB instruction by its second byte (R149). -/
def cbCost (b : Byte) : Nat := if b.toNat % 8 = 6 then (if b.toNat / 64 = 1 then 12 else 16) else 8

/-- The base cost of an unprefixed instruction by its byte, row by row of R149's table (the last row is the 4-tick
row). -/
def baseCost (b : Byte) : Nat :=
  let n := b.toNat
  if b ∈ ([0x20, 0x28, 0x30, 0x38] : List Byte) then 8
  else if b ∈ ([0xC0, 0xC8, 0xD0, 0xD8] : List Byte) then 8
  else if b ∈ ([0xC2, 0xCA, 0xD2, 0xDA, 0xC4, 0xCC, 0xD4, 0xDC] : List Byte) then 12
  else if b ∈ ([0x34, 0x35, 0x36, 0x01, 0x11, 0x21, 0x31, 0xC1, 0xD1, 0xE1, 0xF1, 0xF0, 0xE0, 0xF8, 0x18] : List Byte) then 12
  else if b ∈ ([0xC5, 0xD5, 0xE5, 0xF5, 0xC9, 0xD9, 0xC3, 0xFA, 0xEA, 0xE8] : List Byte) then 16
  else if n / 64 = 3 ∧ n % 8 = 7 then 16
  else if b = 0x08 then 20
  else if b = 0xCD then 24
  else if n / 64 = 1 ∧ b ≠ 0x76 ∧ (n % 8 = 6 ∨ n / 8 % 8 = 6) then 8
  else if n / 64 = 0 ∧ n % 8 = 6 then 8
  else if n / 64 = 2 ∧ n % 8 = 6 then 8
  else if n / 64 = 3 ∧ n % 8 = 6 then 8
  else if n / 64 = 0 ∧ (n % 8 = 2 ∨ n % 8 = 3) then 8
  else if n / 64 = 0 ∧ n % 16 = 9 then 8
  else if b ∈ ([0xF2, 0xE2, 0xF9] : List Byte) then 8
  else 4

/-- The taken extra: JR +4, JP +4, CALL +12, RET +12 (R149). -/
def takenExtra (b : Byte) (s : State) : Nat :=
  let cond := match b.toNat / 8 % 4 with
    | 0 => !zf s
    | 1 => zf s
    | 2 => !cf s
    | _ => cf s
  if b ∈ ([0x20, 0x28, 0x30, 0x38, 0xC2, 0xCA, 0xD2, 0xDA] : List Byte) then (if cond then 4 else 0)
  else if b ∈ ([0xC4, 0xCC, 0xD4, 0xDC, 0xC0, 0xC8, 0xD0, 0xD8] : List Byte) then (if cond then 12 else 0)
  else 0

/-- The addresses an instruction stores to, in order, by its encoding: the destination operand, the two bytes of
`LD (a16),SP`, or the two stack bytes of a push (R173 to R193, R231, R233, R285, R327, R328, R332). -/
def storedTo (i : Instr) (s : State) : List Word :=
  let stack := [s.regs.sp - 1, s.regs.sp - 2]
  match encode i with
  | [b] =>
    if b = 0x02 then [s.regs.bc]
    else if b = 0x12 then [s.regs.de]
    else if b ∈ ([0x22, 0x32, 0x34, 0x35, 0x70, 0x71, 0x72, 0x73, 0x74, 0x75, 0x77] : List Byte) then [s.regs.hl]
    else if b = 0xE2 then [0xFF00 + s.regs.c.zeroExtend 16]
    else if b ∈ ([0xC5, 0xD5, 0xE5, 0xF5, 0xC7, 0xCF, 0xD7, 0xDF, 0xE7, 0xEF, 0xF7, 0xFF] : List Byte) then stack
    else []
  | [b, n] =>
    if b = 0x36 then [s.regs.hl]
    else if b = 0xE0 then [0xFF00 + n.zeroExtend 16]
    else if b = 0xCB ∧ n.toNat % 8 = 6 ∧ n.toNat / 64 ≠ 1 then [s.regs.hl]
    else []
  | [b, lo, hi] =>
    if b = 0x08 then [hi ++ lo, (hi ++ lo) + 1]
    else if b = 0xEA then [hi ++ lo]
    else if b = 0xCD then stack
    else if b = 0xC4 ∧ zf s = false ∨ b = 0xCC ∧ zf s = true ∨ b = 0xD4 ∧ cf s = false ∨ b = 0xDC ∧ cf s = true then stack
    else []
  | _ => []

/-- The instructions, by their bytes, whose rule writes a flag (R25): the ALU forms, INC and DEC of a byte, the accumulator
rotates, DAA, CPL, SCF, CCF, ADD HL, ADD SP, LD HL,SP+e8, POP AF, and the CB forms but RES and SET. -/
def writesFlags (bytes : List Byte) : Prop :=
  match bytes with
  | [] => False
  | b :: rest =>
    b.toNat / 64 = 2 ∨ b.toNat / 64 = 3 ∧ b.toNat % 8 = 6 ∨ b ∈ ([0xF1, 0xE8, 0xF8] : List Byte) ∨
      b.toNat / 64 = 0 ∧ (b.toNat % 8 = 4 ∨ b.toNat % 8 = 5 ∨ b.toNat % 8 = 7 ∨ b.toNat % 16 = 9) ∨
      b = 0xCB ∧ ∃ n ∈ rest, n.toNat < 128

/-- The first bytes of the instructions that write SP: LD SP, INC SP, DEC SP, ADD SP, the stack and the call forms (R190,
R192, R193, R194, R195, R261, R262, R264, R327 to R332). -/
def spWriters : List Byte :=
  [0x31, 0x33, 0x3B, 0xE8, 0xF9, 0xC1, 0xD1, 0xE1, 0xF1, 0xC5, 0xD5, 0xE5, 0xF5, 0xCD, 0xC4, 0xCC, 0xD4, 0xDC, 0xC9, 0xD9]
    ++ [0xC0, 0xC8, 0xD0, 0xD8, 0xC7, 0xCF, 0xD7, 0xDF, 0xE7, 0xEF, 0xF7, 0xFF]

/-- The first bytes of the instructions that write PC (R322 to R332). -/
def pcWriters : List Byte :=
  [0x18, 0x20, 0x28, 0x30, 0x38, 0xC3, 0xC2, 0xCA, 0xD2, 0xDA, 0xE9, 0xCD, 0xC4, 0xCC, 0xD4, 0xDC, 0xC9, 0xD9]
    ++ [0xC0, 0xC8, 0xD0, 0xD8, 0xC7, 0xCF, 0xD7, 0xDF, 0xE7, 0xEF, 0xF7, 0xFF]

/-- An ALU operation in its three operand forms (R221): A becomes `value A s c` and F `flags A s c`, at 4 ticks for a
register operand, 8 for the byte at HL and 8 for an immediate; nothing else changes. -/
def AluGives (op : AluOp) (value : Nat → Nat → Nat → Byte) (flags : Nat → Nat → Nat → Byte) : Prop :=
  ∀ (s : State) (r : Reg8) (n : Byte),
    exec (.mkAlu op (.reg r)) s = .next
        { s with
          regs := { s.regs with a := value s.regs.a.toNat (s.regs.get r).toNat (carry s),
                                f := flags s.regs.a.toNat (s.regs.get r).toNat (carry s) },
          ticks := s.ticks + 4 } ∧
      exec (.mkAlu op .indHl) s = .next
        { s with
          regs := { s.regs with a := value s.regs.a.toNat (s.memRead s.regs.hl).toNat (carry s),
                                f := flags s.regs.a.toNat (s.memRead s.regs.hl).toNat (carry s) },
          ticks := s.ticks + 8 } ∧
      exec (.mkAluImm op n) s = .next
        { s with
          regs := { s.regs with a := value s.regs.a.toNat n.toNat (carry s), f := flags s.regs.a.toNat n.toNat (carry s) },
          ticks := s.ticks + 8 }

/-- An operation that replaces its operand (R231, R285): `x[r]` or the byte at HL becomes `value v c`, F becomes
`flags v s`, at `reg` or `mem` ticks; nothing else changes but what the bus write itself does. -/
def OperandBecomes (mk : Opnd → Instr) (value : Nat → Nat → Byte) (flags : Nat → State → Byte) (reg mem : Nat) : Prop :=
  ∀ (s : State) (r : Reg8),
    exec (mk (.reg r)) s = .next
        { s with
          regs := { s.regs.set r (value (s.regs.get r).toNat (carry s)) with f := flags (s.regs.get r).toNat s },
          ticks := s.ticks + reg } ∧
      exec (mk .indHl) s = .next
        { s.memWrite s.regs.hl (value (s.memRead s.regs.hl).toNat (carry s)) with
          regs := { s.regs with f := flags (s.memRead s.regs.hl).toNat s },
          ticks := s.ticks + mem }

/-- The state after PUSH's sequence (R193): the high byte at SP - 1 first, then the low byte at SP - 2. -/
def pushed (s : State) (w : Word) : State :=
  let t := (s.memWrite (s.regs.sp - 1) (w.extractLsb' 8 8)).memWrite (s.regs.sp - 2) (w.extractLsb' 0 8)
  { t with regs := { s.regs with sp := s.regs.sp - 2 } }

/-- The word POP's sequence reads (R194): the low byte at SP, the high byte at SP + 1. -/
def popWord (s : State) : Word := s.memRead (s.regs.sp + 1) ++ s.memRead s.regs.sp

/-- An interrupt source asks: its bits of IE and IF are both 1 (R394). -/
def asks (s : State) (k : Irq) : Bool := (s.peek 0xFFFF).getLsbD k.bit && (s.peek 0xFF0F).getLsbD k.bit

/-- `IF` with the source's bit set when its IE bit is 1 (R396). -/
def raisedIf (s : State) (k : Irq) : Byte :=
  if (s.peek 0xFFFF).getLsbD k.bit then s.peek 0xFF0F ||| BitVec.ofNat 8 (2 ^ k.bit) else s.peek 0xFF0F

/-- One timer increment (R424). -/
def timerTick (s : State) : State :=
  if s.peek 0xFF05 = 0xFF then (s.poke 0xFF05 (s.peek 0xFF06)).raiseIrq .timer else s.poke 0xFF05 (s.peek 0xFF05 + 1)

/-- `while div_count >= 256: ...` (R425), at most `fuel` times. -/
def divLoop (fuel : Nat) (s : State) : State :=
  match fuel with
  | 0 => s
  | fuel + 1 =>
    if 256 ≤ s.divCount then divLoop fuel { s.poke 0xFF04 (s.peek 0xFF04 + 1) with divCount := s.divCount - 256 } else s

/-- `while tima_count >= per: ...` (R425), at most `fuel` times. -/
def timaLoop (per fuel : Nat) (s : State) : State :=
  match fuel with
  | 0 => s
  | fuel + 1 => if per ≤ s.timaCount then timaLoop per fuel (timerTick { s with timaCount := s.timaCount - per }) else s

/-- `TAC_PERIOD[TAC[1:0]]` (R423). -/
def timerPeriod (s : State) : Nat := [1024, 16, 64, 256].getD ((s.peek 0xFF07).toNat % 4) 0

/-- `advance_timers(d)` as R425 writes it, each loop bounded by `fuel`. -/
def advanceTimers (fuel d : Nat) (s : State) : State :=
  let s1 := divLoop fuel { s with divCount := s.divCount + d }
  if (s1.peek 0xFF07).getLsbD 2 then timaLoop (timerPeriod s1) fuel { s1 with timaCount := s1.timaCount + d } else s1

/-- Ticks of a line before the mode (R452). -/
def modeStart (m : PpuMode) : Nat :=
  match m with
  | .oamScan => 0
  | .transfer => 80
  | .hblank => 252
  | .vblank => 0

/-- How many ticks into the frame of 70224 the PPU is (R452). -/
def framePosition (p : Ppu) : Nat := p.line * 456 + modeStart p.mode + p.budget

/-- `v[i]` of a byte of the backing store, as 0 or 1. -/
def bitAt (s : State) (a i : Nat) : Nat := ((s.peek a).getLsbD i).toNat

/-- `tile_cache[t][y][x]` (R104). -/
def tileColour (s : State) (t y x : Nat) : Nat :=
  bitAt s (0x8000 + 16 * t + 2 * y) (7 - x) + 2 * bitAt s (0x8000 + 16 * t + 2 * y + 1) (7 - x)

/-- `bg_tile(n)` (R105). -/
def bgTileOf (s : State) (n : Byte) : Nat :=
  if bitAt s 0xFF40 4 = 1 then n.toNat else if n.toNat < 128 then 256 + n.toNat else n.toNat

/-- The colour at map coordinates (R465, R473). -/
def mapColour (s : State) (map px py : Nat) : Nat :=
  tileColour s (bgTileOf s (s.peek (map + 32 * (py / 8) + px / 8))) (py % 8) (px % 8)

/-- `pal(P, i)` (R106). -/
def shadeOf (p : Byte) (i : Nat) : Nat := p.toNat / 2 ^ (2 * i) % 4

/-- The reset bytes of the I/O registers of R42 to R69 that are not 0x00; BOOT (0xFF50) apart. -/
def ioReset : List (Nat × Byte) :=
  [(0xFF10, 0x80), (0xFF11, 0xBF), (0xFF12, 0xF3), (0xFF14, 0xBF), (0xFF16, 0x3F), (0xFF19, 0xBF), (0xFF1A, 0x7F)]
    ++ [(0xFF1B, 0xFF), (0xFF1C, 0x9F), (0xFF1E, 0xBF), (0xFF20, 0xFF), (0xFF23, 0xBF), (0xFF24, 0x77), (0xFF25, 0xF3)]
    ++ [(0xFF26, 0xF1), (0xFF40, 0x91), (0xFF47, 0xFC), (0xFF48, 0xFF), (0xFF49, 0xFF)]

/-- The addresses a bus write stores to as plain storage with no other effect (R101): VRAM, the work RAM without an alias,
OAM and the unused range, I/O without the registers of R89's case list and side effects, HRAM and IE. -/
def plainAddress (a : Nat) : Prop :=
  (0x8000 ≤ a ∧ a ≤ 0x9FFF) ∨ (0xDE00 ≤ a ∧ a ≤ 0xDFFF) ∨
    (0xFE00 ≤ a ∧ a ≤ 0xFFFF ∧
      a ∉ ([0xFF00, 0xFF04, 0xFF07, 0xFF14, 0xFF19, 0xFF1E, 0xFF23, 0xFF41, 0xFF44, 0xFF46] : List Nat))

/-- `bgci[x]` on line `ly` (R464, R465, R473), as a number. -/
def bgColour (s : State) (x ly : Nat) : Nat :=
  let dx := (x : Int) - ((s.peek 0xFF4B).toNat - 7)
  let dy := (ly : Int) - (s.peek 0xFF4A).toNat
  if bitAt s 0xFF40 0 = 0 then 0
  else if bitAt s 0xFF40 5 = 1 ∧ 0 ≤ dy ∧ 0 ≤ dx then
    mapColour s (if bitAt s 0xFF40 6 = 1 then 0x9C00 else 0x9800) dx.toNat dy.toNat
  else
    mapColour s (if bitAt s 0xFF40 3 = 1 then 0x9C00 else 0x9800) ((x + (s.peek 0xFF43).toNat) % 256)
      ((ly + (s.peek 0xFF42).toNat) % 256)

/-- `bgsh[x]` on line `ly` (R464, R465, R473), as a number. -/
def bgShadeOf (s : State) (x ly : Nat) : Nat :=
  if bitAt s 0xFF40 0 = 0 then 0 else shadeOf (s.peek 0xFF47) (bgColour s x ly)

/-- The shade OAM entry `i` writes at column `x` of line `ly`, or none: vertical cover (R474), flips, tile and column
(R475, R476), transparency and priority (R477). -/
def spriteShade (s : State) (i x ly : Nat) : Option Nat :=
  let y := ((s.peek (0xFE00 + 4 * i)).toNat : Int) - 16
  let left := ((s.peek (0xFE00 + 4 * i + 1)).toNat : Int) - 8
  let tileNo := (s.peek (0xFE00 + 4 * i + 2)).toNat
  let attr := bitAt s (0xFE00 + 4 * i + 3)
  let h : Nat := if bitAt s 0xFF40 2 = 1 then 16 else 8
  if y ≤ ly ∧ (ly : Int) < y + h ∧ left ≤ x ∧ (x : Int) ≤ left + 7 then
    let row0 := ((ly : Int) - y).toNat
    let row := if attr 6 = 1 then h - 1 - row0 else row0
    let tile := if h = 16 then tileNo / 2 * 2 + row / 8 else tileNo
    let c := ((x : Int) - left).toNat
    let ci := tileColour s tile (row % 8) (if attr 5 = 1 then 7 - c else c)
    let bgv := match s.params.priorityTest with
      | .colorIndex => bgColour s x ly
      | .shade => bgShadeOf s x ly
    if ci = 0 then none
    else if attr 7 = 1 ∧ bgv ≠ 0 then none
    else some (shadeOf (s.peek (if attr 4 = 1 then 0xFF49 else 0xFF48)) ci)
  else none

/-- The 11-bit frequency `NRk4[2:0] ++ NRk3` (R511), as a number. -/
def freqOf (nrk4 nrk3 : Byte) : Nat := nrk4.toNat % 8 * 256 + nrk3.toNat

/-- The channel state of R504 after a trigger: `period` ticks to the next waveform step, length `units * 16384`. -/
def triggered (period units : Nat) (nrk4 : Byte) : Voice :=
  { active := true, bounded := nrk4.getLsbD 6, lenLeft := units * 16384, timer := period }

/-- The envelope of R505 after a trigger. -/
def latched (nrk2 : Byte) : Envelope :=
  { volume := BitVec.ofNat 4 (nrk2.toNat / 16), up := nrk2.getLsbD 3, period := BitVec.ofNat 3 (nrk2.toNat % 8),
    left := nrk2.toNat % 8 * 65536 }

/-- A channel still sounds after the length part of its APU tick (R510 step 2). -/
def sounds (v : Voice) : Bool := !(v.bounded && decide (v.lenLeft = 1))

/-- The timer and the length of an active channel after one APU tick; `period` is the reload (R510 steps 1 and 2). -/
def voiceAfter (period : Nat) (v : Voice) : Voice :=
  { active := sounds v, bounded := v.bounded, lenLeft := if v.bounded = true then v.lenLeft - 1 else v.lenLeft,
    timer := if v.timer = 1 then period else v.timer - 1 }

/-- The waveform position of an active channel of `n` positions after one APU tick (R510 step 1). -/
def posAfter (n : Nat) [NeZero n] (v : Voice) (pos : Fin n) : Fin n := if v.timer = 1 then Fin.ofNat n (pos.val + 1) else pos

/-- The envelope of an active channel after one APU tick: it moves unless the length ran out (R510 steps 2 and 3). -/
def envAfter (v : Voice) (e : Envelope) : Envelope := if sounds v then e.tick else e

/-- The loop of `render` (R541): `n` samples from sample number `samples_done`, each channel after channel. -/
def renderLoop (n : Nat) (s : State) : State × List (Nat × Nat) :=
  match n with
  | 0 => (s, [])
  | n + 1 =>
    let rate := s.params.sampleRate
    let j := s.apu.samplesDone
    let d := (j + 1) * 4194304 / rate - j * 4194304 / rate
    let u := repeatN State.apuTick4 d (repeatN State.apuTick3 d (repeatN State.apuTick2 d (repeatN State.apuTick1 d s)))
    let r := renderLoop n { u with apu := { u.apu with samplesDone := j + 1 } }
    (r.1, u.mix :: r.2)

/-- The level of a square channel (R522, R532). -/
def squareLevel (nrk1 : Byte) (c : Square) : Nat :=
  let pattern := [0b00000001, 0b10000001, 0b10000111, 0b01111110].getD (nrk1.toNat / 64) 0
  if c.voice.active = true ∧ pattern / 2 ^ (7 - c.pos.val) % 2 = 1 then c.env.volume.toNat else 0

/-- The level of the wave channel (R530, R532). -/
def waveLevelOf (s : State) : Nat :=
  let p := s.apu.ch3.pos.val
  let b := (s.peek (0xFF30 + p / 2)).toNat
  let w := if p % 2 = 0 then b / 16 else b % 16
  if s.apu.ch3.voice.active = true ∧ bitAt s 0xFF1A 7 = 1 then
    [0, w, w / 2, w / 4].getD ((s.peek 0xFF1C).toNat / 32 % 4) 0
  else 0

/-- The level of the noise channel (R531, R532). -/
def noiseLevel (c : Noise) : Nat := if c.voice.active = true ∧ c.lfsr.toNat % 2 = 0 then c.env.volume.toNat else 0

/-- The four levels l1..l4. -/
def levels (s : State) : List Nat :=
  [squareLevel (s.peek 0xFF11) s.apu.ch1, squareLevel (s.peek 0xFF16) s.apu.ch2, waveLevelOf s, noiseLevel s.apu.ch4]

/-- The sum of the levels routed by bits `lo` to `lo + 3` of NR51 (R538). -/
def routed (s : State) (lo : Nat) : Nat :=
  ((List.range 4).map fun k => bitAt s 0xFF25 (lo + k) * (levels s).getD k 0).sum

/-- Floor of `j * CLOCK_HZ / SAMPLE_RATE`: the APU ticks before sample `j` (R541). -/
def ticksBefore (rate j : Nat) : Nat := j * 4194304 / rate

end Sys2Proof.Spec

open Sys2Proof Sys2Proof.Machine

/-! ## Encoding -/

/-- Words written out from R148 and R150 decode to the instructions they stand for. -/
def Obligations.SampleWordsDecode : Prop :=
  Spec.reads 1 [0b00000000, 0, 0] .nop ∧
    Spec.reads 3 [0b00000001, 0x34, 0x12] (.ldBcD16 0x1234) ∧
    Spec.reads 1 [0b01001000, 0, 0] .ldCB ∧
    Spec.reads 1 [0b01110110, 0, 0] .halt ∧
    Spec.reads 1 [0b10000110, 0, 0] .addAIndHl ∧
    Spec.reads 2 [0b11111110, 0x2F, 0] (.cpD8 0x2F) ∧
    Spec.reads 1 [0b00101001, 0, 0] .addHlHl ∧
    Spec.reads 2 [0b11001011, 0b01111100, 0] .cbBit7H ∧
    Spec.reads 2 [0b11001011, 0b10000110, 0] .cbRes0IndHl ∧
    Spec.reads 2 [0b11001011, 0b00110111, 0] .cbSwapA ∧
    Spec.reads 2 [0b00111000, 0x80, 0] (.jrCE8 0x80) ∧
    Spec.reads 1 [0b11110101, 0, 0] .pushAf ∧
    Spec.reads 1 [0b11010011, 0, 0] .illegalD3

/-- No bit of an encoding is dropped: whatever follows it, an encoded well-formed instruction decodes to itself, operands
and all, and to nothing more (R141 to R150, R153). -/
def Obligations.EncodeThenDecode : Prop :=
  ∀ (i : Instr) (rest : List Byte), i.wf = true → decode (encode i ++ rest) = .ok i rest

/-- Each word has one meaning: bytes that decode are the encoding of the instruction they decode to, which is well formed,
followed by the rest. -/
def Obligations.DecodeThenEncode : Prop :=
  ∀ (bytes rest : List Byte) (i : Instr), decode bytes = .ok i rest → i.wf = true ∧ bytes = encode i ++ rest

/-- The length of an instruction is known from byte 0 (R153), and the decoder reads exactly that many bytes; it turns a
stream away only when it is shorter than that. The spec has no such stream: that rejection and its name are the model's
choice (DESIGN CHOICE, notes/assumptions/16.md). -/
def Obligations.LengthFromFirstByte : Prop :=
  ∀ (b : Byte) (rest : List Byte),
    (Spec.instrLength b ≤ rest.length + 1 →
      ∃ i, decode (b :: rest) = .ok i (rest.drop (Spec.instrLength b - 1)) ∧ (encode i).length = Spec.instrLength b) ∧
    (rest.length + 1 < Spec.instrLength b → decode (b :: rest) = .rejected (.truncated b))

/-- "The illegal opcodes are exactly the 11 unprefixed bytes with no table entry" (R151): fetching one as an opcode raises
Fatal with that byte and the step count and changes nothing else (R368); no other first byte can. -/
def Obligations.IllegalBytesAreExactlyEleven : Prop :=
  ∀ (b n m : Byte) (s : State),
    (b ∈ Spec.illegalBytes →
      exec (decodeBytes b n m) s = .next { s with fatal := some { opcode := b, steps := s.steps } }) ∧
    (b ∉ Spec.illegalBytes → ∃ t, exec (decodeBytes b n m) s = .next t ∧ t.fatal = s.fatal)

/-- Every opcode has its fixed base cost, and the four conditional classes add their extra when the condition is true
(R149). -/
def Obligations.CostsOfR149 : Prop :=
  ∀ (b n m : Byte) (s : State), b ∉ Spec.illegalBytes →
    ∃ t, exec (decodeBytes b n m) s = .next t ∧
      t.ticks = s.ticks + (if b = 0xCB then Spec.cbCost n else Spec.baseCost b + Spec.takenExtra b s)

/-! ## Registers -/

/-- The pairs alias the 8-bit registers: AF = A ++ F, BC = B ++ C, DE = D ++ E, HL = H ++ L; a write to a pair writes both
halves (F with its low nibble 0, R24) and a write to a half changes the pair (R22). A write to one register leaves the others
(R21). -/
def Obligations.PairsAliasRegisters : Prop :=
  ∀ (g : Regs) (w : Word) (r r' : Reg8) (v : Byte),
    (g.getStackPair .af = g.a ++ g.f ∧ g.getPair .bc = g.b ++ g.c ∧ g.getPair .de = g.d ++ g.e ∧ g.getPair .hl = g.h ++ g.l ∧
      g.getPair .sp = g.sp) ∧
    (g.setPair .bc w = { g with b := w.extractLsb' 8 8, c := w.extractLsb' 0 8 } ∧
      g.setPair .de w = { g with d := w.extractLsb' 8 8, e := w.extractLsb' 0 8 } ∧
      g.setPair .hl w = { g with h := w.extractLsb' 8 8, l := w.extractLsb' 0 8 } ∧
      g.setPair .sp w = { g with sp := w }) ∧
    (∀ p, (g.setPair p w).getPair p = w) ∧
    (g.set r v).get r' = (if r' = r then v else g.get r') ∧
    ((g.set .b v).getPair .bc = v ++ g.c ∧ (g.set .c v).getPair .bc = g.b ++ v ∧ (g.set .d v).getPair .de = v ++ g.e ∧
      (g.set .e v).getPair .de = g.d ++ v ∧ (g.set .h v).getPair .hl = v ++ g.l ∧ (g.set .l v).getPair .hl = g.h ++ v ∧
      (g.set .a v).getStackPair .af = v ++ g.f) ∧
    g.setStackPair .af w = { g with a := w.extractLsb' 8 8, f := w.extractLsb' 0 8 &&& 0xF0 }

/-! ## Loads -/

/-- LD r,r' (R171), LD r,(HL) (R172) and LD r,d8 (R174): the destination alone is written, at 4, 8 and 8 ticks. -/
def Obligations.LoadsIntoARegister : Prop :=
  ∀ (dst src : Reg8) (n m : Byte) (s : State),
    (Spec.reads 1 [Spec.opc (0x40 + 8 * dst.code + src.code), n, m] (.mkLdRegReg dst src) ∧
      exec (.mkLdRegReg dst src) s = .next { s with regs := s.regs.set dst (s.regs.get src), ticks := s.ticks + 4 }) ∧
    (Spec.reads 1 [Spec.opc (0x46 + 8 * dst.code), n, m] (.mkLdRegInd dst) ∧
      exec (.mkLdRegInd dst) s = .next { s with regs := s.regs.set dst (s.memRead s.regs.hl), ticks := s.ticks + 8 }) ∧
    (Spec.reads 2 [Spec.opc (0x06 + 8 * dst.code), n, m] (.mkLdImm (.reg dst) n) ∧
      exec (.mkLdImm (.reg dst) n) s = .next { s with regs := s.regs.set dst n, ticks := s.ticks + 8 })

/-- LD (HL),r (R173) and LD (HL),d8 (R175): one bus write at HL, at 8 and 12 ticks, and no register written. -/
def Obligations.StoresAtHl : Prop :=
  ∀ (src : Reg8) (n m : Byte) (s : State),
    (Spec.reads 1 [Spec.opc (0x70 + src.code), n, m] (.mkLdIndReg src) ∧
      exec (.mkLdIndReg src) s = .next
        { s.memWrite s.regs.hl (s.regs.get src) with regs := s.regs, ticks := s.ticks + 8 }) ∧
    (Spec.reads 2 [0x36, n, m] (.ldIndHlD8 n) ∧
      exec (.ldIndHlD8 n) s = .next { s.memWrite s.regs.hl n with regs := s.regs, ticks := s.ticks + 12 })

/-- The loads of A: LD A,(BC) and LD A,(DE) (R176), LD A,(a16) (R178), LDH A,(a8) (R181), LD A,(C) (R183). -/
def Obligations.LoadsOfA : Prop :=
  ∀ (lo hi : Byte) (s : State),
    (Spec.reads 1 [0x0A, lo, hi] .ldAIndBc ∧
      exec .ldAIndBc s = .next { s with regs := { s.regs with a := s.memRead (s.regs.b ++ s.regs.c) }, ticks := s.ticks + 8 }) ∧
    (Spec.reads 1 [0x1A, lo, hi] .ldAIndDe ∧
      exec .ldAIndDe s = .next { s with regs := { s.regs with a := s.memRead (s.regs.d ++ s.regs.e) }, ticks := s.ticks + 8 }) ∧
    (Spec.reads 3 [0xFA, lo, hi] (.ldAIndA16 (hi ++ lo)) ∧
      exec (.ldAIndA16 (hi ++ lo)) s = .next
        { s with regs := { s.regs with a := s.memRead (hi ++ lo) }, ticks := s.ticks + 16 }) ∧
    (Spec.reads 2 [0xF0, lo, hi] (.ldhAIndA8 lo) ∧
      exec (.ldhAIndA8 lo) s = .next
        { s with regs := { s.regs with a := s.memRead (0xFF00 + lo.zeroExtend 16) }, ticks := s.ticks + 12 }) ∧
    (Spec.reads 1 [0xF2, lo, hi] .ldAIndC ∧
      exec .ldAIndC s = .next
        { s with regs := { s.regs with a := s.memRead (0xFF00 + s.regs.c.zeroExtend 16) }, ticks := s.ticks + 8 })

/-- The stores of A: LD (BC),A and LD (DE),A (R177), LD (a16),A (R179), LDH (a8),A (R182), LD (C),A (R184). -/
def Obligations.StoresOfA : Prop :=
  ∀ (lo hi : Byte) (s : State),
    (Spec.reads 1 [0x02, lo, hi] .ldIndBcA ∧
      exec .ldIndBcA s = .next { s.memWrite (s.regs.b ++ s.regs.c) s.regs.a with regs := s.regs, ticks := s.ticks + 8 }) ∧
    (Spec.reads 1 [0x12, lo, hi] .ldIndDeA ∧
      exec .ldIndDeA s = .next { s.memWrite (s.regs.d ++ s.regs.e) s.regs.a with regs := s.regs, ticks := s.ticks + 8 }) ∧
    (Spec.reads 3 [0xEA, lo, hi] (.ldIndA16A (hi ++ lo)) ∧
      exec (.ldIndA16A (hi ++ lo)) s = .next
        { s.memWrite (hi ++ lo) s.regs.a with regs := s.regs, ticks := s.ticks + 16 }) ∧
    (Spec.reads 2 [0xE0, lo, hi] (.ldhIndA8A lo) ∧
      exec (.ldhIndA8A lo) s = .next
        { s.memWrite (0xFF00 + lo.zeroExtend 16) s.regs.a with regs := s.regs, ticks := s.ticks + 12 }) ∧
    (Spec.reads 1 [0xE2, lo, hi] .ldIndCA ∧
      exec .ldIndCA s = .next
        { s.memWrite (0xFF00 + s.regs.c.zeroExtend 16) s.regs.a with regs := s.regs, ticks := s.ticks + 8 })

/-- LD A,(HL+), LD A,(HL-), LD (HL+),A and LD (HL-),A (R185 to R188): the access at HL, then HL moved by one, modulo
65536. -/
def Obligations.LoadsThatStepHl : Prop :=
  ∀ (n m : Byte) (s : State),
    let up := s.regs.hl + 1
    let down := s.regs.hl - 1
    (Spec.reads 1 [0x2A, n, m] .ldAIndHlInc ∧
      exec .ldAIndHlInc s = .next
        { s with
          regs := { s.regs with a := s.memRead s.regs.hl, h := up.extractLsb' 8 8, l := up.extractLsb' 0 8 },
          ticks := s.ticks + 8 }) ∧
    (Spec.reads 1 [0x3A, n, m] .ldAIndHlDec ∧
      exec .ldAIndHlDec s = .next
        { s with
          regs := { s.regs with a := s.memRead s.regs.hl, h := down.extractLsb' 8 8, l := down.extractLsb' 0 8 },
          ticks := s.ticks + 8 }) ∧
    (Spec.reads 1 [0x22, n, m] .ldIndHlIncA ∧
      exec .ldIndHlIncA s = .next
        { s.memWrite s.regs.hl s.regs.a with
          regs := { s.regs with h := up.extractLsb' 8 8, l := up.extractLsb' 0 8 }, ticks := s.ticks + 8 }) ∧
    (Spec.reads 1 [0x32, n, m] .ldIndHlDecA ∧
      exec .ldIndHlDecA s = .next
        { s.memWrite s.regs.hl s.regs.a with
          regs := { s.regs with h := down.extractLsb' 8 8, l := down.extractLsb' 0 8 }, ticks := s.ticks + 8 })

/-- LD rr,d16 (R190), LD (a16),SP (R191, the low byte first) and LD SP,HL (R192). -/
def Obligations.Loads16 : Prop :=
  ∀ (p : Pair) (lo hi : Byte) (s : State),
    (Spec.reads 3 [Spec.opc (0x01 + 16 * p.code), lo, hi] (.mkLdPairImm p (hi ++ lo)) ∧
      exec (.mkLdPairImm p (hi ++ lo)) s = .next { s with regs := s.regs.setPair p (hi ++ lo), ticks := s.ticks + 12 }) ∧
    (Spec.reads 3 [0x08, lo, hi] (.ldIndA16Sp (hi ++ lo)) ∧
      exec (.ldIndA16Sp (hi ++ lo)) s = .next
        { (s.memWrite (hi ++ lo) (s.regs.sp.extractLsb' 0 8)).memWrite ((hi ++ lo) + 1) (s.regs.sp.extractLsb' 8 8) with
          regs := s.regs, ticks := s.ticks + 20 }) ∧
    (Spec.reads 1 [0xF9, lo, hi] .ldSpHl ∧
      exec .ldSpHl s = .next { s with regs := { s.regs with sp := s.regs.h ++ s.regs.l }, ticks := s.ticks + 8 })

/-- PUSH qq (R193), POP qq (R194) and POP AF (R195, the low nibble of the popped byte discarded). -/
def Obligations.PushAndPop : Prop :=
  ∀ (q : StackPair) (n m : Byte) (s : State),
    let w := Spec.popWord s
    (Spec.reads 1 [Spec.opc (0xC5 + 16 * q.code), n, m] (.mkPush q) ∧
      exec (.mkPush q) s = .next { Spec.pushed s (s.regs.getStackPair q) with ticks := s.ticks + 16 }) ∧
    Spec.reads 1 [Spec.opc (0xC1 + 16 * q.code), n, m] (.mkPop q) ∧
    exec .popBc s = .next
      { s with
        regs := { s.regs with b := w.extractLsb' 8 8, c := w.extractLsb' 0 8, sp := s.regs.sp + 2 },
        ticks := s.ticks + 12 } ∧
    exec .popDe s = .next
      { s with
        regs := { s.regs with d := w.extractLsb' 8 8, e := w.extractLsb' 0 8, sp := s.regs.sp + 2 },
        ticks := s.ticks + 12 } ∧
    exec .popHl s = .next
      { s with
        regs := { s.regs with h := w.extractLsb' 8 8, l := w.extractLsb' 0 8, sp := s.regs.sp + 2 },
        ticks := s.ticks + 12 } ∧
    exec .popAf s = .next
      { s with
        regs := { s.regs with a := w.extractLsb' 8 8, f := w.extractLsb' 0 8 &&& 0xF0, sp := s.regs.sp + 2 },
        ticks := s.ticks + 12 }

/-! ## 8-bit arithmetic -/

/-- The ALU encodings of R221, and ADD (R222), ADC (R223), SUB (R224), SBC (R225) and CP (R229) in every operand form:
the result modulo 256, and Z, N, H, C as each rule states them over unbounded integers. -/
def Obligations.AddSubtractCompare : Prop :=
  (∀ (op : AluOp) (o : Opnd) (n m : Byte),
    Spec.reads 1 [Spec.opc (0x80 + 8 * op.code + o.code), n, m] (.mkAlu op o) ∧
      Spec.reads 2 [Spec.opc (0xC6 + 8 * op.code), n, m] (.mkAluImm op n)) ∧
  Spec.AluGives .add (fun a v _ => BitVec.ofNat 8 (a + v))
    (fun a v _ => Spec.flagByte (decide ((a + v) % 256 = 0)) false (decide (a % 16 + v % 16 > 0xF)) (decide (a + v > 0xFF))) ∧
  Spec.AluGives .adc (fun a v c => BitVec.ofNat 8 (a + v + c))
    (fun a v c => Spec.flagByte (decide ((a + v + c) % 256 = 0)) false (decide (a % 16 + v % 16 + c > 0xF))
      (decide (a + v + c > 0xFF))) ∧
  Spec.AluGives .sub (fun a v _ => BitVec.ofInt 8 ((a : Int) - v))
    (fun a v _ => Spec.flagByte (decide (((a : Int) - v) % 256 = 0)) true (decide (a % 16 < v % 16)) (decide (a < v))) ∧
  Spec.AluGives .sbc (fun a v c => BitVec.ofInt 8 ((a : Int) - v - c))
    (fun a v c => Spec.flagByte (decide (((a : Int) - v - c) % 256 = 0)) true (decide (a % 16 < v % 16 + c))
      (decide (a < v + c))) ∧
  Spec.AluGives .cp (fun a _ _ => BitVec.ofNat 8 a)
    (fun a v _ => Spec.flagByte (decide (((a : Int) - v) % 256 = 0)) true (decide (a % 16 < v % 16)) (decide (a < v)))

/-- AND (R226), XOR (R227) and OR (R228) in every operand form, bit by bit over the naturals. -/
def Obligations.LogicOperations : Prop :=
  Spec.AluGives .and (fun a v _ => BitVec.ofNat 8 (a &&& v))
    (fun a v _ => Spec.flagByte (decide (a &&& v = 0)) false true false) ∧
  Spec.AluGives .xor (fun a v _ => BitVec.ofNat 8 (a ^^^ v))
    (fun a v _ => Spec.flagByte (decide (a ^^^ v = 0)) false false false) ∧
  Spec.AluGives .or (fun a v _ => BitVec.ofNat 8 (a ||| v))
    (fun a v _ => Spec.flagByte (decide (a ||| v = 0)) false false false)

/-- INC r, INC (HL), DEC r, DEC (HL) (R230 to R233): Z, N and H from the operand, C unchanged. -/
def Obligations.IncrementDecrement8 : Prop :=
  (∀ (o : Opnd) (n m : Byte),
    Spec.reads 1 [Spec.opc (0x04 + 8 * o.code), n, m] (.mkInc o) ∧ Spec.reads 1 [Spec.opc (0x05 + 8 * o.code), n, m] (.mkDec o)) ∧
  Spec.OperandBecomes .mkInc (fun v _ => BitVec.ofNat 8 (v + 1))
    (fun v s => Spec.flagByte (decide ((v + 1) % 256 = 0)) false (decide (v % 16 = 0xF)) (Spec.cf s)) 4 12 ∧
  Spec.OperandBecomes .mkDec (fun v _ => BitVec.ofInt 8 ((v : Int) - 1))
    (fun v s => Spec.flagByte (decide (((v : Int) - 1) % 256 = 0)) true (decide (v % 16 = 0)) (Spec.cf s)) 4 12

/-- DAA, by the pseudocode of R234, for every input. -/
def Obligations.DecimalAdjust : Prop :=
  ∀ (n m : Byte) (s : State),
    let a := (s.regs.a.toNat : Int)
    let highAdjust := Spec.cf s = true ∨ a > 0x99
    let lowAdjust := Spec.hf s = true ∨ a % 16 > 9
    let added := a + (if highAdjust then 0x60 else 0) + (if lowAdjust then 0x06 else 0)
    let subtracted := a - (if Spec.cf s = true then 0x60 else 0) - (if Spec.hf s = true then 0x06 else 0)
    let r := if Spec.nf s = true then subtracted else added
    let c := if Spec.nf s = true then Spec.cf s else decide highAdjust
    Spec.reads 1 [0x27, n, m] .daa ∧
      exec .daa s = .next
        { s with
          regs := { s.regs with a := BitVec.ofInt 8 r, f := Spec.flagByte (decide (r % 256 = 0)) (Spec.nf s) false c },
          ticks := s.ticks + 4 }

/-- CPL (R235), SCF (R236) and CCF (R237). -/
def Obligations.ComplementAndCarry : Prop :=
  ∀ (n m : Byte) (s : State),
    (Spec.reads 1 [0x2F, n, m] .cpl ∧
      exec .cpl s = .next
        { s with
          regs := { s.regs with a := BitVec.ofNat 8 (255 - s.regs.a.toNat),
                                f := Spec.flagByte (Spec.zf s) true true (Spec.cf s) },
          ticks := s.ticks + 4 }) ∧
    (Spec.reads 1 [0x37, n, m] .scf ∧
      exec .scf s = .next
        { s with regs := { s.regs with f := Spec.flagByte (Spec.zf s) false false true }, ticks := s.ticks + 4 }) ∧
    (Spec.reads 1 [0x3F, n, m] .ccf ∧
      exec .ccf s = .next
        { s with regs := { s.regs with f := Spec.flagByte (Spec.zf s) false false (!Spec.cf s) }, ticks := s.ticks + 4 })

/-! ## 16-bit arithmetic -/

/-- INC rr (R261), DEC rr (R262) and ADD HL,rr (R263). -/
def Obligations.Arithmetic16 : Prop :=
  ∀ (p : Pair) (n m : Byte) (s : State),
    let v := s.regs.getPair p
    let hl := s.regs.hl
    (Spec.reads 1 [Spec.opc (0x03 + 16 * p.code), n, m] (.mkIncPair p) ∧
      exec (.mkIncPair p) s = .next
        { s with regs := s.regs.setPair p (BitVec.ofNat 16 (v.toNat + 1)), ticks := s.ticks + 8 }) ∧
    (Spec.reads 1 [Spec.opc (0x0B + 16 * p.code), n, m] (.mkDecPair p) ∧
      exec (.mkDecPair p) s = .next
        { s with regs := s.regs.setPair p (BitVec.ofInt 16 ((v.toNat : Int) - 1)), ticks := s.ticks + 8 }) ∧
    (Spec.reads 1 [Spec.opc (0x09 + 16 * p.code), n, m] (.mkAddHl p) ∧
      exec (.mkAddHl p) s = .next
        { s with
          regs := { s.regs.setPair .hl (BitVec.ofNat 16 (hl.toNat + v.toNat)) with
                    f := Spec.flagByte (Spec.zf s) false (decide (hl.toNat % 4096 + v.toNat % 4096 > 0xFFF))
                      (decide (hl.toNat + v.toNat > 0xFFFF)) },
          ticks := s.ticks + 8 })

/-- ADD SP,e8 (R264) and LD HL,SP+e8 (R265): the sum with the signed immediate, the flags from the unsigned one. -/
def Obligations.StackPointerOffset : Prop :=
  ∀ (u m : Byte) (s : State),
    let r := BitVec.ofInt 16 ((s.regs.sp.toNat : Int) + u.toInt)
    let f := Spec.flagByte false false (decide (s.regs.sp.toNat % 16 + u.toNat % 16 > 0xF))
      (decide (s.regs.sp.toNat % 256 + u.toNat > 0xFF))
    (Spec.reads 2 [0xE8, u, m] (.addSpE8 u) ∧
      exec (.addSpE8 u) s = .next { s with regs := { s.regs with sp := r, f := f }, ticks := s.ticks + 16 }) ∧
    (Spec.reads 2 [0xF8, u, m] (.ldHlSpE8 u) ∧
      exec (.ldHlSpE8 u) s = .next { s with regs := { s.regs.setPair .hl r with f := f }, ticks := s.ticks + 12 })

/-! ## Rotates, shifts and bits -/

/-- RLCA, RRCA, RLA, RRA (R281 to R284): Z is always 0. -/
def Obligations.AccumulatorRotates : Prop :=
  ∀ (n m : Byte) (s : State),
    let a := s.regs.a.toNat
    let c := Spec.carry s
    (Spec.reads 1 [0x07, n, m] .rlca ∧
      exec .rlca s = .next
        { s with
          regs := { s.regs with a := BitVec.ofNat 8 (a * 2 + a / 128), f := Spec.flagByte false false false (decide (a / 128 = 1)) },
          ticks := s.ticks + 4 }) ∧
    (Spec.reads 1 [0x0F, n, m] .rrca ∧
      exec .rrca s = .next
        { s with
          regs := { s.regs with a := BitVec.ofNat 8 (a / 2 + a % 2 * 128), f := Spec.flagByte false false false (decide (a % 2 = 1)) },
          ticks := s.ticks + 4 }) ∧
    (Spec.reads 1 [0x17, n, m] .rla ∧
      exec .rla s = .next
        { s with
          regs := { s.regs with a := BitVec.ofNat 8 (a * 2 + c), f := Spec.flagByte false false false (decide (a / 128 = 1)) },
          ticks := s.ticks + 4 }) ∧
    (Spec.reads 1 [0x1F, n, m] .rra ∧
      exec .rra s = .next
        { s with
          regs := { s.regs with a := BitVec.ofNat 8 (a / 2 + c * 128), f := Spec.flagByte false false false (decide (a % 2 = 1)) },
          ticks := s.ticks + 4 })

/-- The encodings and the eight CB rotates and shifts (R285 to R293): the result over the naturals, Z from it, N and H 0,
and C the bit shifted out (0 for SWAP); 8 ticks for a register, 16 for the byte at HL. -/
def Obligations.CbRotatesAndShifts : Prop :=
  (∀ (op : RotOp) (o : Opnd) (m : Byte), Spec.reads 2 [0xCB, Spec.opc (8 * op.code + o.code), m] (.mkRot op o)) ∧
  Spec.OperandBecomes (.mkRot .rlc) (fun v _ => BitVec.ofNat 8 (v * 2 + v / 128))
    (fun v _ => Spec.flagByte (decide ((v * 2 + v / 128) % 256 = 0)) false false (decide (v / 128 = 1))) 8 16 ∧
  Spec.OperandBecomes (.mkRot .rrc) (fun v _ => BitVec.ofNat 8 (v / 2 + v % 2 * 128))
    (fun v _ => Spec.flagByte (decide (v / 2 + v % 2 * 128 = 0)) false false (decide (v % 2 = 1))) 8 16 ∧
  Spec.OperandBecomes (.mkRot .rl) (fun v c => BitVec.ofNat 8 (v * 2 + c))
    (fun v s => Spec.flagByte (decide ((v * 2 + Spec.carry s) % 256 = 0)) false false (decide (v / 128 = 1))) 8 16 ∧
  Spec.OperandBecomes (.mkRot .rr) (fun v c => BitVec.ofNat 8 (v / 2 + c * 128))
    (fun v s => Spec.flagByte (decide (v / 2 + Spec.carry s * 128 = 0)) false false (decide (v % 2 = 1))) 8 16 ∧
  Spec.OperandBecomes (.mkRot .sla) (fun v _ => BitVec.ofNat 8 (v * 2))
    (fun v _ => Spec.flagByte (decide (v * 2 % 256 = 0)) false false (decide (v / 128 = 1))) 8 16 ∧
  Spec.OperandBecomes (.mkRot .sra) (fun v _ => BitVec.ofNat 8 (v / 2 + v / 128 * 128))
    (fun v _ => Spec.flagByte (decide (v / 2 + v / 128 * 128 = 0)) false false (decide (v % 2 = 1))) 8 16 ∧
  Spec.OperandBecomes (.mkRot .swap) (fun v _ => BitVec.ofNat 8 (v % 16 * 16 + v / 16))
    (fun v _ => Spec.flagByte (decide (v % 16 * 16 + v / 16 = 0)) false false false) 8 16 ∧
  Spec.OperandBecomes (.mkRot .srl) (fun v _ => BitVec.ofNat 8 (v / 2))
    (fun v _ => Spec.flagByte (decide (v / 2 = 0)) false false (decide (v % 2 = 1))) 8 16

/-- BIT b,r (R294): Z the complement of the bit, N 0, H 1, C unchanged, nothing written but F. RES b,r (R295) and SET b,r
(R296): that bit of the operand becomes 0 or 1, every other bit and F unchanged. -/
def Obligations.BitTestResetSet : Prop :=
  (∀ (b : Octal) (o : Opnd) (m : Byte),
    Spec.reads 2 [0xCB, Spec.opc (0x40 + 8 * b.toNat + o.code), m] (.mkBit b o) ∧
      Spec.reads 2 [0xCB, Spec.opc (0x80 + 8 * b.toNat + o.code), m] (.mkRes b o) ∧
      Spec.reads 2 [0xCB, Spec.opc (0xC0 + 8 * b.toNat + o.code), m] (.mkSet b o)) ∧
  (∀ (b : Octal) (r : Reg8) (s : State),
    exec (.mkBit b (.reg r)) s = .next
        { s with
          regs := { s.regs with f := Spec.flagByte (!(s.regs.get r).getLsbD b.toNat) false true (Spec.cf s) },
          ticks := s.ticks + 8 } ∧
      exec (.mkBit b .indHl) s = .next
        { s with
          regs := { s.regs with f := Spec.flagByte (!(s.memRead s.regs.hl).getLsbD b.toNat) false true (Spec.cf s) },
          ticks := s.ticks + 12 }) ∧
  (∀ (b : Octal) (r : Reg8) (s : State), ∃ clear set clearMem setMem : Byte,
    (exec (.mkRes b (.reg r)) s = .next { s with regs := s.regs.set r clear, ticks := s.ticks + 8 } ∧
      exec (.mkSet b (.reg r)) s = .next { s with regs := s.regs.set r set, ticks := s.ticks + 8 } ∧
      exec (.mkRes b .indHl) s = .next { s.memWrite s.regs.hl clearMem with regs := s.regs, ticks := s.ticks + 16 } ∧
      exec (.mkSet b .indHl) s = .next { s.memWrite s.regs.hl setMem with regs := s.regs, ticks := s.ticks + 16 }) ∧
    ∀ i, i < 8 →
      clear.getLsbD i = (if i = b.toNat then false else (s.regs.get r).getLsbD i) ∧
        set.getLsbD i = (if i = b.toNat then true else (s.regs.get r).getLsbD i) ∧
        clearMem.getLsbD i = (if i = b.toNat then false else (s.memRead s.regs.hl).getLsbD i) ∧
        setMem.getLsbD i = (if i = b.toNat then true else (s.memRead s.regs.hl).getLsbD i))

/-! ## Control transfer -/

/-- JP a16, JP cc,a16, JP HL, JR e8, JR cc,e8 (R322 to R326): PC alone changes; a true condition (R321) adds the extra, a
false one costs the base cost and leaves PC after the instruction. -/
def Obligations.Jumps : Prop :=
  ∀ (cc : Cond) (lo hi : Byte) (s : State),
    let rel := BitVec.ofInt 16 ((s.regs.pc.toNat : Int) + lo.toInt)
    (Spec.reads 3 [0xC3, lo, hi] (.jpA16 (hi ++ lo)) ∧
      exec (.jpA16 (hi ++ lo)) s = .next { s with regs := { s.regs with pc := hi ++ lo }, ticks := s.ticks + 16 }) ∧
    (Spec.reads 3 [Spec.opc (0xC2 + 8 * cc.code), lo, hi] (.mkJpCond cc (hi ++ lo)) ∧
      exec (.mkJpCond cc (hi ++ lo)) s = .next
        (if Spec.taken s cc then { s with regs := { s.regs with pc := hi ++ lo }, ticks := s.ticks + 16 }
         else { s with ticks := s.ticks + 12 })) ∧
    (Spec.reads 1 [0xE9, lo, hi] .jpHl ∧
      exec .jpHl s = .next { s with regs := { s.regs with pc := s.regs.h ++ s.regs.l }, ticks := s.ticks + 4 }) ∧
    (Spec.reads 2 [0x18, lo, hi] (.jrE8 lo) ∧
      exec (.jrE8 lo) s = .next { s with regs := { s.regs with pc := rel }, ticks := s.ticks + 12 }) ∧
    (Spec.reads 2 [Spec.opc (0x20 + 8 * cc.code), lo, hi] (.mkJrCond cc lo) ∧
      exec (.mkJrCond cc lo) s = .next
        (if Spec.taken s cc then { s with regs := { s.regs with pc := rel }, ticks := s.ticks + 12 }
         else { s with ticks := s.ticks + 8 }))

/-- CALL a16 (R327), CALL cc,a16 (R328), RET (R329), RET cc (R330), RETI (R331) and RST t (R332). -/
def Obligations.CallsAndReturns : Prop :=
  ∀ (cc : Cond) (t : Octal) (lo hi : Byte) (s : State),
    let called (w : Word) (c : Nat) : State :=
      { Spec.pushed s s.regs.pc with regs := { s.regs with sp := s.regs.sp - 2, pc := w }, ticks := s.ticks + c }
    let returned (c : Nat) : State :=
      { s with regs := { s.regs with sp := s.regs.sp + 2, pc := Spec.popWord s }, ticks := s.ticks + c }
    (Spec.reads 3 [0xCD, lo, hi] (.callA16 (hi ++ lo)) ∧ exec (.callA16 (hi ++ lo)) s = .next (called (hi ++ lo) 24)) ∧
    (Spec.reads 3 [Spec.opc (0xC4 + 8 * cc.code), lo, hi] (.mkCallCond cc (hi ++ lo)) ∧
      exec (.mkCallCond cc (hi ++ lo)) s = .next
        (if Spec.taken s cc then called (hi ++ lo) 24 else { s with ticks := s.ticks + 12 })) ∧
    (Spec.reads 1 [0xC9, lo, hi] .ret ∧ exec .ret s = .next (returned 16)) ∧
    (Spec.reads 1 [Spec.opc (0xC0 + 8 * cc.code), lo, hi] (.mkRetCond cc) ∧
      exec (.mkRetCond cc) s = .next (if Spec.taken s cc then returned 20 else { s with ticks := s.ticks + 8 })) ∧
    (Spec.reads 1 [0xD9, lo, hi] .reti ∧ exec .reti s = .next { returned 16 with ime := true, eiDelay := 0 }) ∧
    (Spec.reads 1 [Spec.opc (0xC7 + 8 * t.toNat), lo, hi] (.mkRst t) ∧
      exec (.mkRst t) s = .next (called (BitVec.ofNat 16 (8 * t.toNat)) 16))

/-! ## System instructions -/

/-- NOP (R361), HALT (R362), STOP (R363), DI (R364), EI (R365), each of which costs 4 ticks and changes the one control
state it names; and the byte 0xCB (R366), which with the byte after it is one instruction of the secondary table and
completes for every second byte. That the table's PREFIX row is a constructor, which no word decodes to and whose meaning is
that of the CB instruction, is the model's reading (DEDUCED, notes/assumptions/6.md). -/
def Obligations.SystemInstructions : Prop :=
  ∀ (n m : Byte) (s : State),
    (Spec.reads 1 [0x00, n, m] .nop ∧ exec .nop s = .next { s with ticks := s.ticks + 4 }) ∧
    (Spec.reads 1 [0x76, n, m] .halt ∧ exec .halt s = .next { s with halted := true, ticks := s.ticks + 4 }) ∧
    (Spec.reads 2 [0x10, n, m] (.stop n) ∧ exec (.stop n) s = .next { s with stopped := true, ticks := s.ticks + 4 }) ∧
    (Spec.reads 1 [0xF3, n, m] .di ∧ exec .di s = .next { s with ime := false, eiDelay := 0, ticks := s.ticks + 4 }) ∧
    (Spec.reads 1 [0xFB, n, m] .ei ∧ exec .ei s = .next { s with eiDelay := 2, ticks := s.ticks + 4 }) ∧
    (Spec.reads 2 [0xCB, n, m] (decodeCb n) ∧ exec (.prefixCb n) s = exec (decodeCb n) s ∧
      ∃ t, exec (.prefixCb n) s = .next t ∧ t.fatal = s.fatal ∧ t.ticks = s.ticks + Spec.cbCost n)

/-! ## The step -/

/-- A step runs the decoded instruction (R145, R146, R71): when the core is running and neither halted nor stopped after
the interrupt phase, and the bytes at PC decode to an instruction, the step is the instruction's effect with PC past its
bytes, then (unless that was the fatal stop) the EI rule, the divider and timer advance by all the ticks of the step, the
step count, and the PPU. -/
def Obligations.StepRunsDecodedInstruction : Prop :=
  ∀ (s u : State) (i : Instr) (rest : List Byte),
    let p := s.interruptPhase
    s.fatal = none → p.halted = false → p.stopped = false →
    decode [p.memRead p.regs.pc, p.memRead (p.regs.pc + 1), p.memRead (p.regs.pc + 2)] = .ok i rest →
    exec i { p with regs := { p.regs with pc := p.regs.pc + BitVec.ofNat 16 (encode i).length } } = .next u →
    i.wf = true ∧
    step s = .next
      (if u.fatal.isSome then u
       else
        let v := u.eiRule.advanceTimers (u.ticks - s.ticks)
        State.ppuStep { v with steps := v.steps + 1 })

/-- Waiting (R72, R145, R443): a step of a running core that is halted or stopped after the interrupt phase fetches nothing,
spends 4 ticks, and the divider, the timer and the PPU go on. -/
def Obligations.WaitingStepSpendsFourTicks : Prop :=
  ∀ s : State, s.fatal = none → (s.interruptPhase.halted = true ∨ s.interruptPhase.stopped = true) →
    step s = .next
      (let p := s.interruptPhase
       let v := State.advanceTimers { p with ticks := p.ticks + 4 } (p.ticks + 4 - s.ticks)
       State.ppuStep { v with steps := v.steps + 1 })

/-- Interrupt entry (R403, R393, R404): the source's IF bit cleared, IME and `ei_delay` 0, the return address pushed high
byte first, PC at the source's fixed vector, 20 ticks; nothing else changes but what the bus writes themselves do. -/
def Obligations.InterruptEntry : Prop :=
  ∀ (s : State) (k : Irq),
    let ack := s.poke 0xFF0F (s.peek 0xFF0F &&& ~~~(BitVec.ofNat 8 (2 ^ k.bit)))
    let t := (ack.memWrite (s.regs.sp - 1) (s.regs.pc.extractLsb' 8 8)).memWrite (s.regs.sp - 2) (s.regs.pc.extractLsb' 0 8)
    s.enterInterrupt k =
      { t with
        regs := { s.regs with sp := s.regs.sp - 2, pc := BitVec.ofNat 16 (0x40 + 8 * k.bit) },
        ime := false, eiDelay := 0, ticks := s.ticks + 20 }

/-- The interrupt phase (R399, R401, R402): with no source asking it changes nothing; a source that asks ends HALT whatever
IME is; with IME set the asking source with the lowest bit is entered, and no other. -/
def Obligations.InterruptPhaseTakesTheLowestBit : Prop :=
  ∀ s : State,
    ((∀ k, Spec.asks s k = false) → s.interruptPhase = s) ∧
    (∀ k, Spec.asks s k = true → s.ime = false → s.interruptPhase = { s with halted := false }) ∧
    (∀ k, Spec.asks s k = true → s.ime = true → (∀ j : Irq, j.bit < k.bit → Spec.asks s j = false) →
      s.interruptPhase = State.enterInterrupt { s with halted := false } k)

/-- The EI delay over whole steps (R364, R365, R367, R331): what IME and `ei_delay` are after a step that executed EI, DI,
RETI or any other instruction, and after a waiting step, from what they were after the interrupt phase. -/
def Obligations.EnableDelay : Prop :=
  ∀ s t : State, step s = .next t → t.fatal = none →
    let p := s.interruptPhase
    let i := p.fetchInstr
    (p.idle = true → t.ime = p.ime ∧ t.eiDelay = p.eiDelay) ∧
    (p.idle = false →
      (i = .ei → t.ime = p.ime ∧ t.eiDelay = 1) ∧
      (i = .di → t.ime = false ∧ t.eiDelay = 0) ∧
      (i = .reti → t.ime = true ∧ t.eiDelay = 0) ∧
      (i ≠ .ei → i ≠ .di → i ≠ .reti →
        (p.eiDelay = 0 → t.ime = p.ime ∧ t.eiDelay = 0) ∧
        (p.eiDelay = 1 → t.ime = true ∧ t.eiDelay = 0) ∧
        (∀ n, p.eiDelay = n + 2 → t.ime = p.ime ∧ t.eiDelay = n + 1)))

/-- The fatal stop over whole steps (R391, R368, R71): a running, non-waiting step whose opcode byte is illegal records the
byte and the number of completed steps, PC past the byte, and does nothing else after the interrupt phase; a step ends with
a record in no other way; from a state with a record there is no step. -/
def Obligations.FatalStop : Prop :=
  ∀ s : State,
    let p := s.interruptPhase
    let op := p.memRead p.regs.pc
    (s.fatal = none → p.halted = false → p.stopped = false → op ∈ Spec.illegalBytes →
      step s = .next
        { p with regs := { p.regs with pc := p.regs.pc + 1 }, fatal := some { opcode := op, steps := s.steps } }) ∧
    (∀ t, step s = .next t → t.fatal ≠ none → p.idle = false ∧ op ∈ Spec.illegalBytes) ∧
    (∀ r, s.fatal = some r → step s = .fault (.fatalStopped r.opcode r.steps))

/-- Every running state takes a step: nothing the machine holds can block it (R72, R578). A step that does not end fatally
counts one and adds at least 4 and at most 24 + 20 ticks (R457); a fatal one counts none and adds 0 or the 20 of an
interrupt entry (R391). -/
def Obligations.EveryRunningStateSteps : Prop :=
  ∀ s : State, s.fatal = none →
    ∃ t, step s = .next t ∧
      (t.fatal = none → t.steps = s.steps + 1 ∧ s.ticks + 4 ≤ t.ticks ∧ t.ticks ≤ s.ticks + 44) ∧
      (t.fatal ≠ none → t.steps = s.steps ∧ (t.ticks = s.ticks ∨ t.ticks = s.ticks + 20))

/-- What no instruction and no step can do: a step leaves the parameters (so the cartridge ROM), the buttons and the audio
engine's sample counters as they were, and STOP is not ended by it (R8, R29, R41, R118, R363, R501). -/
def Obligations.WhatNoStepChanges : Prop :=
  ∀ s t : State, step s = .next t →
    t.params = s.params ∧ t.buttons = s.buttons ∧ t.apu.sampleFrac = s.apu.sampleFrac ∧
      t.apu.samplesDone = s.apu.samplesDone ∧ (s.stopped = true → t.stopped = true)

/-! ## Divider, timer and control registers -/

/-- The advance of the divider and the timer is the pseudocode of R425, its increments those of R421 and R424, applied one
by one. -/
def Obligations.TimerAdvanceIsTheSpecLoop : Prop :=
  ∀ (s : State) (d fuel : Nat), s.memoryForm → s.divCount + d ≤ fuel → s.timaCount + d ≤ fuel →
    s.advanceTimers d = Spec.advanceTimers fuel d s

/-- The control registers with rules of their own: writes of JOYP (R42), DIV (R44, R422), TAC (R46, R423), STAT (R60) and LY
(R62); reads of STAT (R462), LY (R461) and, bit by bit, JOYP (R111). -/
def Obligations.ControlRegisters : Prop :=
  ∀ (s : State) (v : Byte),
    s.memWrite 0xFF00 v = s.poke 0xFF00 (v &&& 0x30) ∧
    s.memWrite 0xFF04 v = { s.poke 0xFF04 0x00 with divCount := 0 } ∧
    s.memWrite 0xFF07 v =
      { s.poke 0xFF07 v with
        timaCount := if (s.peek 0xFF07).extractLsb' 0 2 = v.extractLsb' 0 2 then s.timaCount else 0 } ∧
    s.memWrite 0xFF41 v = s.poke 0xFF41 (v &&& 0xF8) ∧
    s.memWrite 0xFF44 v = s ∧
    s.memRead 0xFF44 = BitVec.ofNat 8 s.ppu.line ∧
    s.memRead 0xFF41 =
      (s.peek 0xFF41 &&& 0xF8) ||| (if s.ppu.line = (s.peek 0xFF45).toNat then 0x04 else 0)
        ||| (match s.ppu.mode with | .hblank => 0 | .vblank => 1 | .oamScan => 2 | .transfer => 3) ∧
    (let r := s.memRead 0xFF00
     let directions := Spec.bitAt s 0xFF00 4 = 0
     let actions := Spec.bitAt s 0xFF00 5 = 0
     r.getLsbD 7 = true ∧ r.getLsbD 6 = true ∧ r.getLsbD 5 = (s.peek 0xFF00).getLsbD 5 ∧
      r.getLsbD 4 = (s.peek 0xFF00).getLsbD 4 ∧
      (r.getLsbD 3 = false ↔ (directions ∧ s.buttons.down = true) ∨ (actions ∧ s.buttons.start = true)) ∧
      (r.getLsbD 2 = false ↔ (directions ∧ s.buttons.up = true) ∨ (actions ∧ s.buttons.select = true)) ∧
      (r.getLsbD 1 = false ↔ (directions ∧ s.buttons.left = true) ∨ (actions ∧ s.buttons.b = true)) ∧
      (r.getLsbD 0 = false ↔ (directions ∧ s.buttons.right = true) ∨ (actions ∧ s.buttons.a = true)))

/-- Raising a source sets its IF bit when its IE bit is 1 and else leaves no trace (R396); the key-press event ends STOP and
raises the joypad source, and changes nothing else (R437); setting the buttons raises nothing (R398); `consume_frame()`
returns the frame flag and clears it, and changes nothing else (R459). -/
def Obligations.RaisingAndKeyPress : Prop :=
  ∀ (s : State) (k : Irq) (b : Buttons), s.memoryForm →
    s.raiseIrq k = s.poke 0xFF0F (Spec.raisedIf s k) ∧
    s.keyPress = { s.poke 0xFF0F (Spec.raisedIf s .joypad) with stopped := false } ∧
    s.setButtons b = { s with buttons := b } ∧
    (HostOp.consumeFrame.reply s = .frame s.ppu.frameReady ∧
      HostOp.consumeFrame.apply s = .next { s with ppu := { s.ppu with frameReady := false } })

/-! ## Memory -/

/-- What a read of the cartridge and of the external RAM answers: the boot overlay (R90), the fixed window (R91), the
switchable window with `rom_bank()` (R92), the flat image (R93), the external RAM (R94). -/
def Obligations.CartridgeReads : Prop :=
  ∀ (s : State) (a : Word),
    let n := a.toNat
    let image (k : Nat) : Byte := Memory.read .rom s.params.rom (k % s.params.romSize)
    let bank := if s.mbc.mode = false then s.mbc.bankHi.toNat * 32 + s.mbc.bankLo.toNat else s.mbc.bankLo.toNat
    (∀ rom : Vector Byte 256, s.params.bootRom = some rom → s.peek 0xFF50 = 0x00 → ∀ h : n < 256, s.memRead a = rom[n]) ∧
    ((s.params.bootRom = none ∨ s.peek 0xFF50 ≠ 0x00 ∨ 0x00FF < n) →
      (n ≤ 0x3FFF → s.memRead a = image n) ∧
      (0x4000 ≤ n → n ≤ 0x7FFF → s.params.cartKind = .switchable → s.memRead a = image (bank * 16384 + (n - 0x4000))) ∧
      (n ≤ 0x7FFF → s.params.cartKind = .noMapper → s.memRead a = image n)) ∧
    (0xA000 ≤ n → n ≤ 0xBFFF →
      (s.params.cartKind = .switchable → s.mbc.ramEnable = true → s.mbc.mode = true → 0 < s.params.ramBanks →
        s.memRead a = Memory.read .eram s.eram (s.mbc.bankHi.toNat % s.params.ramBanks * 8192 + (n - 0xA000))) ∧
      ((s.params.cartKind = .noMapper ∨ s.mbc.ramEnable = false ∨ s.mbc.mode = false ∨ s.params.ramBanks = 0) →
        s.memRead a = 0xFF))

/-- The bank registers (R95 to R98), none of which a cartridge without a mapper has (R89), and the external RAM write
(R99): written through when it is enabled, with the byte read back and every other byte of the RAM kept, else ignored. -/
def Obligations.BankRegistersAndExternalRam : Prop :=
  ∀ (s : State) (a : Word) (v : Byte), s.memoryForm →
    let n := a.toNat
    (n ≤ 0x7FFF → s.params.cartKind = .noMapper → s.memWrite a v = s) ∧
    (s.params.cartKind = .switchable →
      (n ≤ 0x1FFF → s.memWrite a v = { s with mbc := { s.mbc with ramEnable := decide (v.toNat % 16 = 0xA) } }) ∧
      (0x2000 ≤ n → n ≤ 0x3FFF →
        s.memWrite a v = { s with mbc := { s.mbc with bankLo := BitVec.ofNat 5 (max 1 (v.toNat % 32)) } }) ∧
      (0x4000 ≤ n → n ≤ 0x5FFF → s.memWrite a v = { s with mbc := { s.mbc with bankHi := BitVec.ofNat 2 (v.toNat % 4) } }) ∧
      (0x6000 ≤ n → n ≤ 0x7FFF → s.memWrite a v = { s with mbc := { s.mbc with mode := v.getLsbD 0 } })) ∧
    (0xA000 ≤ n → n ≤ 0xBFFF →
      (s.params.cartKind = .switchable ∧ s.mbc.ramEnable = true ∧ s.mbc.mode = true ∧ 0 < s.params.ramBanks →
        ∃ e, s.memWrite a v = { s with eram := e } ∧ (s.memWrite a v).memRead a = v ∧
          ∀ k, k ≠ s.mbc.bankHi.toNat % s.params.ramBanks * 8192 + (n - 0xA000) →
            Memory.read .eram e k = Memory.read .eram s.eram k) ∧
      (¬ (s.params.cartKind = .switchable ∧ s.mbc.ramEnable = true ∧ s.mbc.mode = true ∧ 0 < s.params.ramBanks) →
        s.memWrite a v = s))

/-- Plain storage (R101), the echo in both directions (R100), and the two bytes of a word, low byte first (R84): what was
written is what is read. -/
def Obligations.StoredBytesReadBack : Prop :=
  ∀ (s : State) (a w : Word) (v : Byte), s.memoryForm →
    let n := a.toNat
    (Spec.plainAddress n → s.memWrite a v = s.poke n v ∧ (s.memWrite a v).memRead a = v) ∧
    (0xC000 ≤ n → n ≤ 0xDDFF →
      s.memWrite a v = (s.poke n v).poke (n + 0x2000) v ∧ (s.memWrite a v).memRead a = v ∧
        (s.memWrite a v).memRead (a + 0x2000) = v) ∧
    (0xE000 ≤ n → n ≤ 0xFDFF →
      s.memWrite a v = (s.poke n v).poke (n - 0x2000) v ∧ (s.memWrite a v).memRead a = v ∧
        (s.memWrite a v).memRead (a - 0x2000) = v) ∧
    (0xC000 ≤ n → n < 0xDFFF →
      (s.memWrite16 a w).memRead a = w.extractLsb' 0 8 ∧ (s.memWrite16 a w).memRead (a + 1) = w.extractLsb' 8 8 ∧
        (s.memWrite16 a w).memRead16 a = w)

/-- The frame of memory, for every instruction: with the addresses it stores to computed from its encoding and the state, an
address that none of those writes can reach reads after it as it read before; for an instruction that stores nothing, so
does every address. -/
def Obligations.MemoryFrame : Prop :=
  ∀ (i : Instr) (s t : State), s.memoryForm → exec i s = .next t →
    ∀ b : Word, (∀ a ∈ Spec.storedTo i s, writeReaches a.toNat b.toNat = false) → t.memRead b = s.memRead b

/-- The frame of everything else, for every instruction: F, SP and PC are written only by the instructions whose rules write
them (R25); IME and `ei_delay` only by DI, EI and RETI; `halted`,
`stopped` and the fatal record only by HALT, STOP and the illegal bytes; the bank registers, the external RAM, the audio
state and the two sub-counts only by one that stores; the PPU, the step count, the buttons and the parameters by none. -/
def Obligations.StateFrame : Prop :=
  ∀ (i : Instr) (s t : State), exec i s = .next t →
    (t.ppu = s.ppu ∧ t.steps = s.steps ∧ t.buttons = s.buttons ∧ t.params = s.params) ∧
    (i ≠ .di → i ≠ .ei → i ≠ .reti → t.ime = s.ime ∧ t.eiDelay = s.eiDelay) ∧
    (i ≠ .halt → t.halted = s.halted) ∧
    ((∀ b, i ≠ .stop b) → t.stopped = s.stopped) ∧
    ((∀ b ∈ Spec.illegalBytes, encode i ≠ [b]) → t.fatal = s.fatal) ∧
    (Spec.storedTo i s = [] →
      t.mem = s.mem ∧ t.eram = s.eram ∧ t.mbc = s.mbc ∧ t.apu = s.apu ∧ t.divCount = s.divCount ∧
        t.timaCount = s.timaCount) ∧
    (¬ Spec.writesFlags (encode i) → t.regs.f = s.regs.f) ∧
    ((∀ b ∈ Spec.spWriters, (encode i).head? ≠ some b) → t.regs.sp = s.regs.sp) ∧
    ((∀ b ∈ Spec.pcWriters, (encode i).head? ≠ some b) → t.regs.pc = s.regs.pc)

/-- OAM DMA (R102, R64): a write of `v` to 0xFF46 stores it and copies 160 bytes read from `v << 8` upward into OAM, inside
the write, with no tick (the source byte at 0xFF46 itself is the byte just stored); no other byte changes. -/
def Obligations.OamDmaCopies : Prop :=
  ∀ (s : State) (v : Byte), s.memoryForm →
    let t := s.memWrite 0xFF46 v
    (∃ m, t = { s with mem := m }) ∧ t.memRead 0xFF46 = v ∧
    (∀ i, i < 160 →
      t.peek (0xFE00 + i) =
        (if v = 0xFF ∧ i = 0x46 then v else s.memRead (BitVec.ofNat 16 (v.toNat * 256 + i)))) ∧
    (∀ b, b ≠ 0xFF46 → (b < 0xFE00 ∨ 0xFE9F < b) → t.peek b = s.peek b)

/-! ## PPU -/

/-- The end of each mode: OAM-scan (R453), pixel transfer with the LY compare and the rendering of one line unless the
display is off (R454, R458, R460), H-blank with the vblank event at line 144 (R455), a V-blank line (R456). -/
def Obligations.PpuModeEnds : Prop :=
  ∀ s : State,
    (s.ppu.mode = .oamScan → s.endOfMode = { s with ppu := { s.ppu with mode := .transfer } }) ∧
    (s.ppu.mode = .transfer →
      let r := if s.ppu.line = (s.peek 0xFF45).toNat then s.raiseIrq .lcdStat else s
      (Spec.bitAt r 0xFF40 7 = 0 → s.endOfMode = { r with ppu := { s.ppu with mode := .hblank } }) ∧
      (Spec.bitAt r 0xFF40 7 = 1 → ∀ h : s.ppu.line < 144,
        s.endOfMode =
          { r with
            ppu := { s.ppu with mode := .hblank,
                                framebuffer := s.ppu.framebuffer.set s.ppu.line (r.composeLine s.ppu.line) h } })) ∧
    (s.ppu.mode = .hblank →
      (s.ppu.line + 1 = 144 →
        s.endOfMode =
          { s.raiseIrq .vblank with ppu := { s.ppu with line := 144, frameReady := true, mode := .vblank } }) ∧
      (s.ppu.line + 1 ≠ 144 →
        s.endOfMode = { s with ppu := { s.ppu with line := s.ppu.line + 1, mode := .oamScan } })) ∧
    (s.ppu.mode = .vblank →
      (s.ppu.line < 153 → s.endOfMode = { s with ppu := { s.ppu with line := s.ppu.line + 1 } }) ∧
      (s.ppu.line = 153 → s.endOfMode = { s with ppu := { s.ppu with line := 0, mode := .oamScan } }))

/-- The PPU keeps time (R451, R452, R457): however many ticks a PPU step sees, it moves the PPU that far through the frame of
70224 ticks, each mode and line at its place, and the frame flag is set exactly when it passes tick 65664, the start of
line 144. -/
def Obligations.PpuKeepsFrameTime : Prop :=
  ∀ s : State, s.ppu.line ≤ 153 → (s.ppu.mode = .vblank ↔ 144 ≤ s.ppu.line) → s.ppu.budget < s.ppu.mode.duration →
    s.ppu.last ≤ s.ticks →
    let now := Spec.framePosition s.ppu + (s.ticks - s.ppu.last)
    let p := s.ppuStep.ppu
    Spec.framePosition p = now % 70224 ∧ p.line ≤ 153 ∧ (p.mode = .vblank ↔ 144 ≤ p.line) ∧
      p.budget < p.mode.duration ∧ p.last = s.ticks ∧
      p.frameReady = (s.ppu.frameReady || decide ((Spec.framePosition s.ppu + 4560) / 70224 < (now + 4560) / 70224))

/-- The background and the window (R464, R465, R472, R473, over R104 to R106): with the sprite layer off, a composed line
holds at every column the shade the rules give. -/
def Obligations.BackgroundAndWindow : Prop :=
  ∀ (s : State) (ly x : Nat) (h : x < 160), Spec.bitAt s 0xFF40 1 = 0 →
    ((s.composeLine ly)[x]).toNat = Spec.bgShadeOf s x ly

/-- The sprite layer (R474 to R477): a column shows the shade of the last OAM entry that draws there, and the background
where none does; so an entry with the priority bit never covers a non-zero background pixel, and one without it always
covers unless its own colour index is 0. -/
def Obligations.SpritesOverBackground : Prop :=
  ∀ (s : State) (ly x : Nat) (h : x < 160), Spec.bitAt s 0xFF40 1 = 1 →
    ((∀ i, i < 40 → Spec.spriteShade s i x ly = none) → ((s.composeLine ly)[x]).toNat = Spec.bgShadeOf s x ly) ∧
    (∀ i c, i < 40 → Spec.spriteShade s i x ly = some c → (∀ j, i < j → j < 40 → Spec.spriteShade s j x ly = none) →
      ((s.composeLine ly)[x]).toNat = c)

/-! ## APU -/

/-- Channel triggers (R503 to R507, R511 to R514): a write to NR14, NR24, NR34 or NR44 stores the byte and, with bit 7 set,
starts the channel from the registers as they are now; with bit 7 clear it only stores. -/
def Obligations.ChannelTriggers : Prop :=
  ∀ (s : State) (v : Byte), s.memoryForm →
    let f1 := Spec.freqOf v (s.peek 0xFF13)
    let f2 := Spec.freqOf v (s.peek 0xFF18)
    let f3 := Spec.freqOf v (s.peek 0xFF1D)
    let nr43 := (s.peek 0xFF22).toNat
    (v.getLsbD 7 = false →
      s.memWrite 0xFF14 v = s.poke 0xFF14 v ∧ s.memWrite 0xFF19 v = s.poke 0xFF19 v ∧
        s.memWrite 0xFF1E v = s.poke 0xFF1E v ∧ s.memWrite 0xFF23 v = s.poke 0xFF23 v) ∧
    (v.getLsbD 7 = true →
      s.memWrite 0xFF14 v =
        { s.poke 0xFF14 v with
          apu := { s.apu with
            ch1 := { voice := Spec.triggered ((2048 - f1) * 4) (64 - (s.peek 0xFF11).toNat % 64) v, pos := 0,
                     env := Spec.latched (s.peek 0xFF12) },
            sweep := { shadow := BitVec.ofNat 11 f1, left := (s.peek 0xFF10).toNat / 16 % 8 * 32768 } } } ∧
      s.memWrite 0xFF19 v =
        { s.poke 0xFF19 v with
          apu := { s.apu with
            ch2 := { voice := Spec.triggered ((2048 - f2) * 4) (64 - (s.peek 0xFF16).toNat % 64) v, pos := 0,
                     env := Spec.latched (s.peek 0xFF17) } } } ∧
      s.memWrite 0xFF1E v =
        { s.poke 0xFF1E v with
          apu := { s.apu with
            ch3 := { voice := Spec.triggered ((2048 - f3) * 2) (256 - (s.peek 0xFF1B).toNat) v, pos := 0 } } } ∧
      s.memWrite 0xFF23 v =
        { s.poke 0xFF23 v with
          apu := { s.apu with
            ch4 := { voice := Spec.triggered ([8, 16, 32, 48, 64, 80, 96, 112].getD (nr43 % 8) 0 * 2 ^ (nr43 / 16))
                       (64 - (s.peek 0xFF20).toNat % 64) v,
                     env := Spec.latched (s.peek 0xFF21), lfsr := 0x7FFF } } })

/-- The length counter (R515): a bounded channel 2, 3 or 4 sounds for exactly `len_left` APU ticks, an unbounded one goes on;
so does channel 1 while no sweep runs; with one, a bounded channel 1 has stopped by then (its sweep may stop it before). -/
def Obligations.LengthEndsTheSound : Prop :=
  ∀ (s : State) (m : Nat),
    (s.apu.ch1.voice.active = true → s.apu.ch1.voice.bounded = true → 0 < s.apu.ch1.voice.lenLeft →
      s.apu.ch1.voice.lenLeft ≤ m → (repeatN State.apuTick1 m s).apu.ch1.voice.active = false) ∧
    (s.apu.ch1.voice.active = true → 0 < s.apu.ch1.voice.lenLeft → s.apu.sweep.left = 0 →
      (repeatN State.apuTick1 m s).apu.ch1.voice.active = (!s.apu.ch1.voice.bounded || decide (m < s.apu.ch1.voice.lenLeft))) ∧
    (s.apu.ch2.voice.active = true → 0 < s.apu.ch2.voice.lenLeft →
      (repeatN State.apuTick2 m s).apu.ch2.voice.active = (!s.apu.ch2.voice.bounded || decide (m < s.apu.ch2.voice.lenLeft))) ∧
    (s.apu.ch3.voice.active = true → 0 < s.apu.ch3.voice.lenLeft →
      (repeatN State.apuTick3 m s).apu.ch3.voice.active = (!s.apu.ch3.voice.bounded || decide (m < s.apu.ch3.voice.lenLeft))) ∧
    (s.apu.ch4.voice.active = true → 0 < s.apu.ch4.voice.lenLeft →
      (repeatN State.apuTick4 m s).apu.ch4.voice.active = (!s.apu.ch4.voice.bounded || decide (m < s.apu.ch4.voice.lenLeft)))

/-- One APU tick of each channel (R510): an inactive channel does not advance (R502); in an active one, whose counters have
not run out, the frequency timer falls, and at its end moves the waveform position (in channel 4 the LFSR) by one step and
reloads from the period of the registers as they are (R511 to R514); then the length falls and may end the channel; then the
envelope, and in channel 1 the sweep, take their step. The envelope step (R516): the volume moves by one within 0..15 when
the countdown ends. The sweep step (R517): the candidate frequency silences channel 1 above 2047, else becomes the shadow and
is written back to NR13 and NR14 without a trigger. -/
def Obligations.EnvelopeAndSweepSteps : Prop :=
  (∀ s : State,
    let v1 := s.apu.ch1.voice
    let v2 := s.apu.ch2.voice
    let v3 := s.apu.ch3.voice
    let v4 := s.apu.ch4.voice
    let f1 := Spec.freqOf (s.peek 0xFF14) (s.peek 0xFF13)
    let f2 := Spec.freqOf (s.peek 0xFF19) (s.peek 0xFF18)
    let f3 := Spec.freqOf (s.peek 0xFF1E) (s.peek 0xFF1D)
    let nr43 := (s.peek 0xFF22).toNat
    let period4 := [8, 16, 32, 48, 64, 80, 96, 112].getD (nr43 % 8) 0 * 2 ^ (nr43 / 16)
    (v1.active = false → s.apuTick1 = s) ∧ (v2.active = false → s.apuTick2 = s) ∧ (v3.active = false → s.apuTick3 = s) ∧
    (v4.active = false → s.apuTick4 = s) ∧
    (v1.active = true → v1.live →
      let c := s.apu.ch1
      let u := { s with apu := { s.apu with
                   ch1 := { voice := Spec.voiceAfter ((2048 - f1) * 4) v1, pos := Spec.posAfter 8 v1 c.pos,
                            env := Spec.envAfter v1 c.env } } }
      s.apuTick1 = (if Spec.sounds v1 then u.sweepTick else u)) ∧
    (v2.active = true → v2.live →
      let c := s.apu.ch2
      s.apuTick2 = { s with apu := { s.apu with
                       ch2 := { voice := Spec.voiceAfter ((2048 - f2) * 4) v2, pos := Spec.posAfter 8 v2 c.pos,
                                env := Spec.envAfter v2 c.env } } }) ∧
    (v3.active = true → v3.live →
      s.apuTick3 = { s with apu := { s.apu with
                       ch3 := { voice := Spec.voiceAfter ((2048 - f3) * 2) v3,
                                pos := Spec.posAfter 32 v3 s.apu.ch3.pos } } }) ∧
    (v4.active = true → v4.live →
      let c := s.apu.ch4
      s.apuTick4 = { s with apu := { s.apu with
                       ch4 := { voice := Spec.voiceAfter period4 v4, env := Spec.envAfter v4 c.env,
                                lfsr := if v4.timer = 1 then lfsrStep ((s.peek 0xFF22).getLsbD 3) c.lfsr else c.lfsr } } })) ∧
  (∀ e : Envelope,
    (e.period = 0 → e.tick = e) ∧
    (e.period ≠ 0 → 1 < e.left → e.tick = { e with left := e.left - 1 }) ∧
    (e.period ≠ 0 → e.left = 1 →
      e.tick =
        { e with
          volume := BitVec.ofNat 4 (if e.up then min (e.volume.toNat + 1) 15 else e.volume.toNat - 1),
          left := e.period.toNat * 65536 })) ∧
  (∀ s : State,
    let nr10 := (s.peek 0xFF10).toNat
    let sh := nr10 % 8
    let shadow := s.apu.sweep.shadow.toNat
    let cand := if nr10 / 8 % 2 = 1 then shadow - shadow / 2 ^ sh else shadow + shadow / 2 ^ sh
    let reload := nr10 / 16 % 8 * 32768
    (s.apu.sweep.left = 0 → s.sweepTick = s) ∧
    (1 < s.apu.sweep.left →
      s.sweepTick = { s with apu := { s.apu with sweep := { s.apu.sweep with left := s.apu.sweep.left - 1 } } }) ∧
    (s.apu.sweep.left = 1 → sh = 0 →
      s.sweepTick = { s with apu := { s.apu with sweep := { s.apu.sweep with left := reload } } }) ∧
    (s.apu.sweep.left = 1 → sh ≠ 0 → 2047 < cand →
      s.sweepTick =
        { s with
          apu := { s.apu with
            ch1 := { s.apu.ch1 with voice := { s.apu.ch1.voice with active := false } },
            sweep := { s.apu.sweep with left := 0 } } }) ∧
    (s.apu.sweep.left = 1 → sh ≠ 0 → cand ≤ 2047 →
      s.sweepTick =
        { (s.poke 0xFF13 (BitVec.ofNat 8 cand)).poke 0xFF14
            ((s.peek 0xFF14 &&& 0xF8) ||| BitVec.ofNat 8 (cand / 256)) with
          apu := { s.apu with sweep := { shadow := BitVec.ofNat 11 cand, left := reload } } }))

/-- The LFSR step (R518) over the naturals, in both widths; in the wide mode it never reaches 0 from a non-zero state. -/
def Obligations.NoiseShiftRegister : Prop :=
  ∀ l : BitVec 15,
    let x := (l.toNat + l.toNat / 2) % 2
    let wide := l.toNat / 2 + x * 16384
    (lfsrStep false l).toNat = wide ∧
      (lfsrStep true l).toNat = wide - wide / 64 % 2 * 64 + x * 64 ∧
      (l ≠ 0 → lfsrStep false l ≠ 0)

/-- The levels (R522, R530 to R532) and the mixer (R538): each side is the sum of the routed levels times its master volume
plus one, and lies in 0..480. -/
def Obligations.MixerSumsRoutedLevels : Prop :=
  ∀ s : State,
    s.mix.1 = Spec.routed s 4 * ((s.peek 0xFF24).toNat / 16 % 8 + 1) ∧
      s.mix.2 = Spec.routed s 0 * ((s.peek 0xFF24).toNat % 8 + 1) ∧ s.mix.1 ≤ 480 ∧ s.mix.2 ≤ 480

/-- `render` (R541, R543, R501): it is R541's loop, each sample the mix after its ticks; it returns as many samples as the
carried fraction and the milliseconds make, carries the rest, counts the samples, and writes nothing but the audio state and,
through the sweep, NR13 and NR14; each channel, alone, has advanced by the ticks between the sample counts before and after,
so that over any run the APU has advanced `floor(samples_done * CLOCK_HZ / SAMPLE_RATE)` ticks; and the samples of a run are
those its renders returned, in order (R577; that a schedule takes no operation after the fatal state is the model's reading,
DEDUCED, notes/assumptions/8.md). -/
def Obligations.RenderedSamples : Prop :=
  (∀ (s : State) (ms : Nat),
    let total := s.apu.sampleFrac + ms * s.params.sampleRate
    let t := (s.render ms).1
    (s.render ms).2.length = total / 1000 ∧ t.apu.sampleFrac = total % 1000 ∧
      t.apu.samplesDone = s.apu.samplesDone + total / 1000 ∧
      (∃ m a, t = { s with mem := m, apu := a }) ∧
      (s.memoryForm → ∀ b, b ≠ 0xFF13 → b ≠ 0xFF14 → t.peek b = s.peek b) ∧
      s.render ms = Spec.renderLoop (total / 1000) { s with apu := { s.apu with sampleFrac := total % 1000 } } ∧
      (s.memoryForm →
        let d := Spec.ticksBefore s.params.sampleRate t.apu.samplesDone -
          Spec.ticksBefore s.params.sampleRate s.apu.samplesDone
        t.apu.ch1 = (repeatN State.apuTick1 d s).apu.ch1 ∧ t.apu.sweep = (repeatN State.apuTick1 d s).apu.sweep ∧
          t.mem = (repeatN State.apuTick1 d s).mem ∧ t.apu.ch2 = (repeatN State.apuTick2 d s).apu.ch2 ∧
          t.apu.ch3 = (repeatN State.apuTick3 d s).apu.ch3 ∧ t.apu.ch4 = (repeatN State.apuTick4 d s).apu.ch4)) ∧
  (∀ (op : HostOp) (ops : List HostOp) (s t : State), s.fatal = none → op.apply s = .next t →
    (drive (op :: ops) s).samples =
      (match op with
        | .render ms => (s.render ms).2
        | .machineStep | .coldBoot _ | .setButtons _ | .keyPress | .consumeFrame => []) ++ (drive ops t).samples) ∧
  (∀ rate n : Nat, 0 < rate → ((List.range n).map (sampleTicks rate)).sum = Spec.ticksBefore rate n)

/-! ## Reset -/

/-- Cold boot (R70, R561, R563), for all parameters: the CPU registers, PC and BOOT with and without a boot ROM, the control
state, the device state, the I/O bytes of R42 to R69, and RAM_INIT everywhere else. -/
def Obligations.ColdBootState : Prop :=
  ∀ p : Params, p.wf = true →
    let s := State.coldBoot p
    (p.bootRom = none →
      s.regs = { a := 0x01, f := 0xB0, b := 0x00, c := 0x13, d := 0x00, e := 0xD8, h := 0x01, l := 0x4D, sp := 0xFFFE,
                 pc := 0x0100 } ∧ s.peek 0xFF50 = 0x01) ∧
    (p.bootRom ≠ none →
      s.regs = { a := 0, f := 0, b := 0, c := 0, d := 0, e := 0, h := 0, l := 0, sp := 0, pc := 0 } ∧ s.peek 0xFF50 = 0x00) ∧
    (s.ime = false ∧ s.eiDelay = 0 ∧ s.halted = false ∧ s.stopped = false ∧ s.fatal = none ∧ s.steps = 0 ∧ s.ticks = 0 ∧
      s.divCount = 0 ∧ s.timaCount = 0) ∧
    s.mbc = { ramEnable := false, bankLo := 1, bankHi := 0, mode := false } ∧
    (s.ppu.mode = .oamScan ∧ s.ppu.budget = 0 ∧ s.ppu.last = 0 ∧ s.ppu.line = 0 ∧ s.ppu.frameReady = false ∧
      ∀ (y x : Nat) (hy : y < 144) (hx : x < 160), (s.ppu.framebuffer[y])[x] = 0) ∧
    (∀ v ∈ [s.apu.ch1.voice, s.apu.ch2.voice, s.apu.ch3.voice, s.apu.ch4.voice],
      v.active = false ∧ v.lenLeft = 0 ∧ v.timer = 0) ∧
    (s.apu.ch1.env.left = 0 ∧ s.apu.ch2.env.left = 0 ∧ s.apu.ch4.env.left = 0 ∧ s.apu.sweep.left = 0 ∧
      s.apu.ch4.lfsr = 0x7FFF ∧ s.apu.sampleFrac = 0 ∧ s.apu.samplesDone = 0) ∧
    s.buttons = { right := false, left := false, up := false, down := false, a := false, b := false, select := false,
                  start := false } ∧
    (∀ a, 0xFF00 ≤ a → a ≤ 0xFFFF → a ≠ 0xFF50 → isRamByte a = false →
      s.peek a = (Spec.ioReset.lookup a).getD 0x00) ∧
    (∀ a, isRamByte a = true → s.peek a = Memory.read .bus p.ramInit a) ∧
    (∀ a, Memory.read .eram s.eram a = Memory.read .eram p.eramInit a) ∧ s.params = p

/-- Every invariant of the model holds after a cold boot with legal parameters, and in the reset state (whose parameters are
the model's choice, notes/assumptions/1.md, as are the audio fields of notes/assumptions/3.md). -/
def Obligations.ResetMeetsTheInvariants : Prop := State.reset.Inv ∧ ∀ p : Params, p.wf = true → (State.coldBoot p).Inv

/-! ## Invariants every step keeps -/

/-- Memory keeps its canonical form, the echo its equality (R100), and the stored bytes of JOYP and STAT their unused bits
(R42, R60), in every step. -/
def Obligations.StepKeepsMemory : Prop :=
  ∀ s t : State, step s = .next t → s.memoryForm →
    t.memoryForm ∧ (s.echoForm → t.echoForm) ∧ (s.storedBitsForm → t.storedBitsForm)

/-- "The low 4 bits of the flag byte are always zero" (R24), `ei_delay` stays in 0..2 (R27), halted and stopped are never
both set (R443), `bank_lo` is never 0 (R36), and the fatal record counts the completed steps (R30), in every step. -/
def Obligations.StepKeepsControlState : Prop :=
  ∀ s t : State, step s = .next t →
    (s.flagForm → t.flagForm) ∧ (s.controlForm → t.controlForm) ∧ (s.bankForm → t.bankForm) ∧ t.fatalForm

/-- The sub-counts stay under their periods (R32, R425), the PPU stays on a line and in a mode that go together with its
budget under the mode's duration and every tick seen (R39, R451, R452), in every step. -/
def Obligations.StepKeepsTimersAndPpu : Prop :=
  ∀ s t : State, step s = .next t → s.memoryForm → (s.timerForm → t.timerForm) ∧ (s.ppuForm → t.ppuForm)

/-- Whatever the host does between and with steps (R576), from a state that meets every invariant it comes to one that does:
a machine step, a cold boot with legal parameters, buttons, a key press, a render, a consumed frame; so does a run of any
schedule of these, which ends where the schedule does or in the fatal state, and nowhere else (R577, R578; what a run is, is the model's reading,
DEDUCED, notes/assumptions/8.md). -/
def Obligations.HostOperationsKeepTheInvariants : Prop :=
  (∀ (op : HostOp) (s t : State), s.Inv → (∀ p, op = .coldBoot p → p.wf = true) → op.apply s = .next t → t.Inv) ∧
  (∀ (ops : List HostOp) (s : State), s.Inv → (∀ p, .coldBoot p ∈ ops → p.wf = true) →
    let r := drive ops s
    r.state.Inv ∧ (r.ending = .hostStopped ↔ r.state.fatal = none) ∧
      ∀ f, r.ending = .fatal f ↔ r.state.fatal = some f)
end

