-- ==== Sys2Proof/Laws/Memory.lean ====
section
/-! SUPPORT. The laws of a store in canonical form: a read after a write, every other address left alone, the form kept,
and equal contents are equal lists. -/

namespace Sys2Proof.Machine

variable {st : Store}

/-- A store whose cells start at `lo` reads as unlisted below it. -/
theorem Memory.read_below {lo a : Nat} {m : Memory} (hm : Memory.wfFrom st lo m = true) (ha : a < lo) :
    Memory.read st m a = unlisted st a := by
  cases m with
  | nil => rfl
  | cons c rest =>
    obtain ⟨b, w⟩ := c
    simp only [Memory.wfFrom, Bool.and_eq_true, decide_eq_true_eq] at hm
    rw [Memory.read, if_pos (by omega)]

/-- A lower bound on the cells may be lowered. -/
theorem Memory.wfFrom_mono {lo lo' : Nat} {m : Memory} (hle : lo' ≤ lo) (hm : Memory.wfFrom st lo m = true) :
    Memory.wfFrom st lo' m = true := by
  cases m with
  | nil => rfl
  | cons c rest =>
    obtain ⟨b, w⟩ := c
    simp only [Memory.wfFrom, Bool.and_eq_true, decide_eq_true_eq] at hm ⊢
    exact ⟨⟨⟨by omega, hm.1.1.2⟩, hm.1.2⟩, hm.2⟩

/-- A read of the address just written gives the byte written. -/
theorem Memory.read_write_same_from {lo : Nat} {m : Memory} (a : Nat) (v : Byte) (hm : Memory.wfFrom st lo m = true) :
    Memory.read st (Memory.write st m a v) a = v := by
  induction m generalizing lo with
  | nil => by_cases hv : v = unlisted st a <;> simp [Memory.write, Memory.read, hv]
  | cons c rest ih =>
    obtain ⟨b, w⟩ := c
    simp only [Memory.wfFrom, Bool.and_eq_true, decide_eq_true_eq] at hm
    rcases Nat.lt_trichotomy a b with hab | rfl | hab
    · by_cases hv : v = unlisted st a <;> simp [Memory.write, Memory.read, hab, hv]
    · by_cases hv : v = unlisted st a
      · simp [Memory.write, hv, Memory.read_below hm.2 (Nat.lt_succ_self a)]
      · simp [Memory.write, Memory.read, hv]
    · have h1 : ¬ a < b := by omega
      have h2 : ¬ a = b := by omega
      simp [Memory.write, Memory.read, h1, h2, ih hm.2]

/-- A write leaves every other address as it was. -/
theorem Memory.read_write_ne_from {lo : Nat} {m : Memory} {a b : Nat} (v : Byte) (hm : Memory.wfFrom st lo m = true)
    (hab : b ≠ a) : Memory.read st (Memory.write st m a v) b = Memory.read st m b := by
  induction m generalizing lo with
  | nil =>
    by_cases hv : v = unlisted st a
    · simp [Memory.write, hv]
    · rcases Nat.lt_or_gt_of_ne hab with h | h
      · simp [Memory.write, Memory.read, hv, h]
      · simp [Memory.write, Memory.read, hv, Nat.not_lt_of_gt h, hab]
  | cons c rest ih =>
    obtain ⟨k, w⟩ := c
    simp only [Memory.wfFrom, Bool.and_eq_true, decide_eq_true_eq] at hm
    rcases Nat.lt_trichotomy a k with hak | rfl | hak
    · by_cases hv : v = unlisted st a
      · simp [Memory.write, hak, hv]
      · simp only [Memory.write, hak, hv, if_true, if_false]
        rcases Nat.lt_or_gt_of_ne hab with h | h
        · rw [Memory.read, if_pos h, Memory.read, if_pos (by omega)]
        · rw [Memory.read, if_neg (by omega), if_neg hab]
    · by_cases hv : v = unlisted st a
      · simp only [Memory.write, Nat.lt_irrefl, if_false, if_true, hv]
        rcases Nat.lt_or_gt_of_ne hab with h | h
        · rw [Memory.read_below hm.2 (by omega), Memory.read, if_pos h]
        · rw [Memory.read, if_neg (by omega), if_neg hab]
      · simp only [Memory.write, Nat.lt_irrefl, if_false, if_true, hv]
        simp only [Memory.read, if_neg hab]
    · have h1 : ¬ a < k := by omega
      have h2 : ¬ a = k := by omega
      simp only [Memory.write, h1, h2, if_false, Memory.read, ih hm.2]

/-- A write to an address the store has keeps the canonical form. -/
theorem Memory.wfFrom_write {lo : Nat} {m : Memory} {a : Nat} (v : Byte) (hm : Memory.wfFrom st lo m = true)
    (hlo : lo ≤ a) (ha : st.holds a = true) : Memory.wfFrom st lo (Memory.write st m a v) = true := by
  induction m generalizing lo with
  | nil => by_cases hv : v = unlisted st a <;> simp [Memory.write, Memory.wfFrom, hv, hlo, ha]
  | cons c rest ih =>
    obtain ⟨k, w⟩ := c
    have hm' := hm
    simp only [Memory.wfFrom, Bool.and_eq_true, decide_eq_true_eq] at hm'
    rcases Nat.lt_trichotomy a k with hak | rfl | hak
    · by_cases hv : v = unlisted st a
      · simpa [Memory.write, hak, hv] using hm
      · simp only [Memory.write, hak, hv, if_true, if_false, Memory.wfFrom, Bool.and_eq_true, decide_eq_true_eq]
        exact ⟨⟨⟨hlo, ha⟩, hv⟩, ⟨⟨by omega, hm'.1.1.2⟩, hm'.1.2⟩, hm'.2⟩
    · by_cases hv : v = unlisted st a
      · simp only [Memory.write, Nat.lt_irrefl, if_false, if_true, hv]
        exact Memory.wfFrom_mono (by omega) hm'.2
      · simp only [Memory.write, Nat.lt_irrefl, if_false, if_true, hv, Memory.wfFrom, Bool.and_eq_true, decide_eq_true_eq]
        exact ⟨⟨⟨hlo, ha⟩, hv⟩, hm'.2⟩
    · have h1 : ¬ a < k := by omega
      have h2 : ¬ a = k := by omega
      simp only [Memory.write, h1, h2, if_false, Memory.wfFrom, Bool.and_eq_true, decide_eq_true_eq]
      exact ⟨hm'.1, ih hm'.2 (by omega)⟩

/-- A read of the address just written gives the byte written. -/
theorem Memory.read_write_same {m : Memory} (a : Nat) (v : Byte) (hm : Memory.wf st m = true) :
    Memory.read st (Memory.write st m a v) a = v := Memory.read_write_same_from a v hm

/-- A write leaves every other address as it was. -/
theorem Memory.read_write_ne {m : Memory} {a b : Nat} (v : Byte) (hm : Memory.wf st m = true) (hab : b ≠ a) :
    Memory.read st (Memory.write st m a v) b = Memory.read st m b := Memory.read_write_ne_from v hm hab

/-- A read after a write, in one equation. -/
theorem Memory.read_write {m : Memory} (a b : Nat) (v : Byte) (hm : Memory.wf st m = true) :
    Memory.read st (Memory.write st m a v) b = if b = a then v else Memory.read st m b := by
  by_cases h : b = a
  · rw [if_pos h, h, Memory.read_write_same a v hm]
  · rw [if_neg h, Memory.read_write_ne v hm h]

/-- A write to an address the store has keeps the canonical form. -/
theorem Memory.wf_write {m : Memory} {a : Nat} (v : Byte) (hm : Memory.wf st m = true) (ha : st.holds a = true) :
    Memory.wf st (Memory.write st m a v) = true := Memory.wfFrom_write v hm (Nat.zero_le a) ha

/-- The empty store has the canonical form. -/
theorem Memory.wf_nil : Memory.wf st [] = true := rfl

/-- Two stores in canonical form with equal contents are equal. -/
theorem Memory.ext_of_read {lo : Nat} {m m' : Memory} (hm : Memory.wfFrom st lo m = true)
    (hm' : Memory.wfFrom st lo m' = true) (h : ∀ a, Memory.read st m a = Memory.read st m' a) : m = m' := by
  induction m generalizing lo m' with
  | nil =>
    cases m' with
    | nil => rfl
    | cons c rest =>
      obtain ⟨b, w⟩ := c
      simp only [Memory.wfFrom, Bool.and_eq_true, decide_eq_true_eq] at hm'
      exact absurd ((h b).symm.trans rfl) (by simpa [Memory.read] using hm'.1.2)
  | cons c rest ih =>
    obtain ⟨b, w⟩ := c
    have hc := hm
    simp only [Memory.wfFrom, Bool.and_eq_true, decide_eq_true_eq] at hc
    cases m' with
    | nil => exact absurd (h b) (by simpa [Memory.read] using hc.1.2)
    | cons c' rest' =>
      obtain ⟨b', w'⟩ := c'
      have hc' := hm'
      simp only [Memory.wfFrom, Bool.and_eq_true, decide_eq_true_eq] at hc'
      have hbb : b = b' := by
        rcases Nat.lt_trichotomy b b' with hlt | heq | hgt
        · have := h b
          simp only [Memory.read, Nat.lt_irrefl, if_false, if_true, if_pos hlt] at this
          exact absurd this hc.1.2
        · exact heq
        · have := h b'
          simp only [Memory.read, Nat.lt_irrefl, if_false, if_true, if_pos hgt] at this
          exact absurd this.symm hc'.1.2
      subst hbb
      have hw : w = w' := by simpa [Memory.read] using h b
      subst hw
      have hrest : rest = rest' := by
        refine ih hc.2 hc'.2 fun a => ?_
        rcases Nat.lt_trichotomy a b with hlt | heq | hgt
        · rw [Memory.read_below hc.2 (by omega), Memory.read_below hc'.2 (by omega)]
        · rw [Memory.read_below hc.2 (by omega), Memory.read_below hc'.2 (by omega)]
        · have := h a
          rwa [Memory.read, if_neg (by omega), if_neg (by omega), Memory.read, if_neg (by omega), if_neg (by omega)] at this
      rw [hrest]

/-- Below the I/O registers with a reset value, an unlisted byte of the backing store reads 0x00. -/
theorem unlisted_bus_below {a : Nat} (h : a < 0xFF10) : unlisted .bus a = 0 := by
  have hne : ∀ k, 0xFF10 ≤ k → (a == k) = false := fun k hk => by simp only [beq_eq_false_iff_ne]; omega
  simp [unlisted, ioResetTable, List.lookup, hne]

end Sys2Proof.Machine
end

