-- ==== Sys2Proof/Laws/State.lean ====
section
/-! SUPPORT. What every update of the state does to every field, each true by `rfl`: no later proof unfolds a record
update. -/

namespace Sys2Proof.Machine

variable (s : State)

/-! ## `poke` -/

@[simp] theorem State.poke_regs (a : Nat) (v : Byte) : (s.poke a v).regs = s.regs := rfl
@[simp] theorem State.poke_ime (a : Nat) (v : Byte) : (s.poke a v).ime = s.ime := rfl
@[simp] theorem State.poke_eiDelay (a : Nat) (v : Byte) : (s.poke a v).eiDelay = s.eiDelay := rfl
@[simp] theorem State.poke_halted (a : Nat) (v : Byte) : (s.poke a v).halted = s.halted := rfl
@[simp] theorem State.poke_stopped (a : Nat) (v : Byte) : (s.poke a v).stopped = s.stopped := rfl
@[simp] theorem State.poke_fatal (a : Nat) (v : Byte) : (s.poke a v).fatal = s.fatal := rfl
@[simp] theorem State.poke_steps (a : Nat) (v : Byte) : (s.poke a v).steps = s.steps := rfl
@[simp] theorem State.poke_ticks (a : Nat) (v : Byte) : (s.poke a v).ticks = s.ticks := rfl
@[simp] theorem State.poke_divCount (a : Nat) (v : Byte) : (s.poke a v).divCount = s.divCount := rfl
@[simp] theorem State.poke_timaCount (a : Nat) (v : Byte) : (s.poke a v).timaCount = s.timaCount := rfl
@[simp] theorem State.poke_mem (a : Nat) (v : Byte) : (s.poke a v).mem = Memory.write .bus s.mem a v := rfl
@[simp] theorem State.poke_eram (a : Nat) (v : Byte) : (s.poke a v).eram = s.eram := rfl
@[simp] theorem State.poke_mbc (a : Nat) (v : Byte) : (s.poke a v).mbc = s.mbc := rfl
@[simp] theorem State.poke_ppu (a : Nat) (v : Byte) : (s.poke a v).ppu = s.ppu := rfl
@[simp] theorem State.poke_apu (a : Nat) (v : Byte) : (s.poke a v).apu = s.apu := rfl
@[simp] theorem State.poke_buttons (a : Nat) (v : Byte) : (s.poke a v).buttons = s.buttons := rfl
@[simp] theorem State.poke_params (a : Nat) (v : Byte) : (s.poke a v).params = s.params := rfl

/-! ## `tick` -/

@[simp] theorem State.tick_regs (n : Nat) : (s.tick n).regs = s.regs := rfl
@[simp] theorem State.tick_ime (n : Nat) : (s.tick n).ime = s.ime := rfl
@[simp] theorem State.tick_eiDelay (n : Nat) : (s.tick n).eiDelay = s.eiDelay := rfl
@[simp] theorem State.tick_halted (n : Nat) : (s.tick n).halted = s.halted := rfl
@[simp] theorem State.tick_stopped (n : Nat) : (s.tick n).stopped = s.stopped := rfl
@[simp] theorem State.tick_fatal (n : Nat) : (s.tick n).fatal = s.fatal := rfl
@[simp] theorem State.tick_steps (n : Nat) : (s.tick n).steps = s.steps := rfl
@[simp] theorem State.tick_ticks (n : Nat) : (s.tick n).ticks = s.ticks + n := rfl
@[simp] theorem State.tick_divCount (n : Nat) : (s.tick n).divCount = s.divCount := rfl
@[simp] theorem State.tick_timaCount (n : Nat) : (s.tick n).timaCount = s.timaCount := rfl
@[simp] theorem State.tick_mem (n : Nat) : (s.tick n).mem = s.mem := rfl
@[simp] theorem State.tick_eram (n : Nat) : (s.tick n).eram = s.eram := rfl
@[simp] theorem State.tick_mbc (n : Nat) : (s.tick n).mbc = s.mbc := rfl
@[simp] theorem State.tick_ppu (n : Nat) : (s.tick n).ppu = s.ppu := rfl
@[simp] theorem State.tick_apu (n : Nat) : (s.tick n).apu = s.apu := rfl
@[simp] theorem State.tick_buttons (n : Nat) : (s.tick n).buttons = s.buttons := rfl
@[simp] theorem State.tick_params (n : Nat) : (s.tick n).params = s.params := rfl
@[simp] theorem State.tick_peek (n : Nat) (a : Nat) : (s.tick n).peek a = s.peek a := rfl

/-! ## `setRegs` -/

@[simp] theorem State.setRegs_regs (g : Regs) : (s.setRegs g).regs = g := rfl
@[simp] theorem State.setRegs_ime (g : Regs) : (s.setRegs g).ime = s.ime := rfl
@[simp] theorem State.setRegs_eiDelay (g : Regs) : (s.setRegs g).eiDelay = s.eiDelay := rfl
@[simp] theorem State.setRegs_halted (g : Regs) : (s.setRegs g).halted = s.halted := rfl
@[simp] theorem State.setRegs_stopped (g : Regs) : (s.setRegs g).stopped = s.stopped := rfl
@[simp] theorem State.setRegs_fatal (g : Regs) : (s.setRegs g).fatal = s.fatal := rfl
@[simp] theorem State.setRegs_steps (g : Regs) : (s.setRegs g).steps = s.steps := rfl
@[simp] theorem State.setRegs_ticks (g : Regs) : (s.setRegs g).ticks = s.ticks := rfl
@[simp] theorem State.setRegs_divCount (g : Regs) : (s.setRegs g).divCount = s.divCount := rfl
@[simp] theorem State.setRegs_timaCount (g : Regs) : (s.setRegs g).timaCount = s.timaCount := rfl
@[simp] theorem State.setRegs_mem (g : Regs) : (s.setRegs g).mem = s.mem := rfl
@[simp] theorem State.setRegs_eram (g : Regs) : (s.setRegs g).eram = s.eram := rfl
@[simp] theorem State.setRegs_mbc (g : Regs) : (s.setRegs g).mbc = s.mbc := rfl
@[simp] theorem State.setRegs_ppu (g : Regs) : (s.setRegs g).ppu = s.ppu := rfl
@[simp] theorem State.setRegs_apu (g : Regs) : (s.setRegs g).apu = s.apu := rfl
@[simp] theorem State.setRegs_buttons (g : Regs) : (s.setRegs g).buttons = s.buttons := rfl
@[simp] theorem State.setRegs_params (g : Regs) : (s.setRegs g).params = s.params := rfl
@[simp] theorem State.setRegs_peek (g : Regs) (a : Nat) : (s.setRegs g).peek a = s.peek a := rfl

/-! ## `setReg` -/

@[simp] theorem State.setReg_regs (r : Reg8) (v : Byte) : (s.setReg r v).regs = s.regs.set r v := rfl
@[simp] theorem State.setReg_ime (r : Reg8) (v : Byte) : (s.setReg r v).ime = s.ime := rfl
@[simp] theorem State.setReg_eiDelay (r : Reg8) (v : Byte) : (s.setReg r v).eiDelay = s.eiDelay := rfl
@[simp] theorem State.setReg_halted (r : Reg8) (v : Byte) : (s.setReg r v).halted = s.halted := rfl
@[simp] theorem State.setReg_stopped (r : Reg8) (v : Byte) : (s.setReg r v).stopped = s.stopped := rfl
@[simp] theorem State.setReg_fatal (r : Reg8) (v : Byte) : (s.setReg r v).fatal = s.fatal := rfl
@[simp] theorem State.setReg_steps (r : Reg8) (v : Byte) : (s.setReg r v).steps = s.steps := rfl
@[simp] theorem State.setReg_ticks (r : Reg8) (v : Byte) : (s.setReg r v).ticks = s.ticks := rfl
@[simp] theorem State.setReg_divCount (r : Reg8) (v : Byte) : (s.setReg r v).divCount = s.divCount := rfl
@[simp] theorem State.setReg_timaCount (r : Reg8) (v : Byte) : (s.setReg r v).timaCount = s.timaCount := rfl
@[simp] theorem State.setReg_mem (r : Reg8) (v : Byte) : (s.setReg r v).mem = s.mem := rfl
@[simp] theorem State.setReg_eram (r : Reg8) (v : Byte) : (s.setReg r v).eram = s.eram := rfl
@[simp] theorem State.setReg_mbc (r : Reg8) (v : Byte) : (s.setReg r v).mbc = s.mbc := rfl
@[simp] theorem State.setReg_ppu (r : Reg8) (v : Byte) : (s.setReg r v).ppu = s.ppu := rfl
@[simp] theorem State.setReg_apu (r : Reg8) (v : Byte) : (s.setReg r v).apu = s.apu := rfl
@[simp] theorem State.setReg_buttons (r : Reg8) (v : Byte) : (s.setReg r v).buttons = s.buttons := rfl
@[simp] theorem State.setReg_params (r : Reg8) (v : Byte) : (s.setReg r v).params = s.params := rfl
@[simp] theorem State.setReg_peek (r : Reg8) (v : Byte) (a : Nat) : (s.setReg r v).peek a = s.peek a := rfl

/-! ## `setPc` -/

@[simp] theorem State.setPc_regs (w : Word) : (s.setPc w).regs = { s.regs with pc := w } := rfl
@[simp] theorem State.setPc_ime (w : Word) : (s.setPc w).ime = s.ime := rfl
@[simp] theorem State.setPc_eiDelay (w : Word) : (s.setPc w).eiDelay = s.eiDelay := rfl
@[simp] theorem State.setPc_halted (w : Word) : (s.setPc w).halted = s.halted := rfl
@[simp] theorem State.setPc_stopped (w : Word) : (s.setPc w).stopped = s.stopped := rfl
@[simp] theorem State.setPc_fatal (w : Word) : (s.setPc w).fatal = s.fatal := rfl
@[simp] theorem State.setPc_steps (w : Word) : (s.setPc w).steps = s.steps := rfl
@[simp] theorem State.setPc_ticks (w : Word) : (s.setPc w).ticks = s.ticks := rfl
@[simp] theorem State.setPc_divCount (w : Word) : (s.setPc w).divCount = s.divCount := rfl
@[simp] theorem State.setPc_timaCount (w : Word) : (s.setPc w).timaCount = s.timaCount := rfl
@[simp] theorem State.setPc_mem (w : Word) : (s.setPc w).mem = s.mem := rfl
@[simp] theorem State.setPc_eram (w : Word) : (s.setPc w).eram = s.eram := rfl
@[simp] theorem State.setPc_mbc (w : Word) : (s.setPc w).mbc = s.mbc := rfl
@[simp] theorem State.setPc_ppu (w : Word) : (s.setPc w).ppu = s.ppu := rfl
@[simp] theorem State.setPc_apu (w : Word) : (s.setPc w).apu = s.apu := rfl
@[simp] theorem State.setPc_buttons (w : Word) : (s.setPc w).buttons = s.buttons := rfl
@[simp] theorem State.setPc_params (w : Word) : (s.setPc w).params = s.params := rfl
@[simp] theorem State.setPc_peek (w : Word) (a : Nat) : (s.setPc w).peek a = s.peek a := rfl

/-! ## `setSp` -/

@[simp] theorem State.setSp_regs (w : Word) : (s.setSp w).regs = { s.regs with sp := w } := rfl
@[simp] theorem State.setSp_ime (w : Word) : (s.setSp w).ime = s.ime := rfl
@[simp] theorem State.setSp_eiDelay (w : Word) : (s.setSp w).eiDelay = s.eiDelay := rfl
@[simp] theorem State.setSp_halted (w : Word) : (s.setSp w).halted = s.halted := rfl
@[simp] theorem State.setSp_stopped (w : Word) : (s.setSp w).stopped = s.stopped := rfl
@[simp] theorem State.setSp_fatal (w : Word) : (s.setSp w).fatal = s.fatal := rfl
@[simp] theorem State.setSp_steps (w : Word) : (s.setSp w).steps = s.steps := rfl
@[simp] theorem State.setSp_ticks (w : Word) : (s.setSp w).ticks = s.ticks := rfl
@[simp] theorem State.setSp_divCount (w : Word) : (s.setSp w).divCount = s.divCount := rfl
@[simp] theorem State.setSp_timaCount (w : Word) : (s.setSp w).timaCount = s.timaCount := rfl
@[simp] theorem State.setSp_mem (w : Word) : (s.setSp w).mem = s.mem := rfl
@[simp] theorem State.setSp_eram (w : Word) : (s.setSp w).eram = s.eram := rfl
@[simp] theorem State.setSp_mbc (w : Word) : (s.setSp w).mbc = s.mbc := rfl
@[simp] theorem State.setSp_ppu (w : Word) : (s.setSp w).ppu = s.ppu := rfl
@[simp] theorem State.setSp_apu (w : Word) : (s.setSp w).apu = s.apu := rfl
@[simp] theorem State.setSp_buttons (w : Word) : (s.setSp w).buttons = s.buttons := rfl
@[simp] theorem State.setSp_params (w : Word) : (s.setSp w).params = s.params := rfl
@[simp] theorem State.setSp_peek (w : Word) (a : Nat) : (s.setSp w).peek a = s.peek a := rfl

/-! ## `setFlags` -/

@[simp] theorem State.setFlags_regs (f : Flags) : (s.setFlags f).regs = { s.regs with f := f.pack } := rfl
@[simp] theorem State.setFlags_ime (f : Flags) : (s.setFlags f).ime = s.ime := rfl
@[simp] theorem State.setFlags_eiDelay (f : Flags) : (s.setFlags f).eiDelay = s.eiDelay := rfl
@[simp] theorem State.setFlags_halted (f : Flags) : (s.setFlags f).halted = s.halted := rfl
@[simp] theorem State.setFlags_stopped (f : Flags) : (s.setFlags f).stopped = s.stopped := rfl
@[simp] theorem State.setFlags_fatal (f : Flags) : (s.setFlags f).fatal = s.fatal := rfl
@[simp] theorem State.setFlags_steps (f : Flags) : (s.setFlags f).steps = s.steps := rfl
@[simp] theorem State.setFlags_ticks (f : Flags) : (s.setFlags f).ticks = s.ticks := rfl
@[simp] theorem State.setFlags_divCount (f : Flags) : (s.setFlags f).divCount = s.divCount := rfl
@[simp] theorem State.setFlags_timaCount (f : Flags) : (s.setFlags f).timaCount = s.timaCount := rfl
@[simp] theorem State.setFlags_mem (f : Flags) : (s.setFlags f).mem = s.mem := rfl
@[simp] theorem State.setFlags_eram (f : Flags) : (s.setFlags f).eram = s.eram := rfl
@[simp] theorem State.setFlags_mbc (f : Flags) : (s.setFlags f).mbc = s.mbc := rfl
@[simp] theorem State.setFlags_ppu (f : Flags) : (s.setFlags f).ppu = s.ppu := rfl
@[simp] theorem State.setFlags_apu (f : Flags) : (s.setFlags f).apu = s.apu := rfl
@[simp] theorem State.setFlags_buttons (f : Flags) : (s.setFlags f).buttons = s.buttons := rfl
@[simp] theorem State.setFlags_params (f : Flags) : (s.setFlags f).params = s.params := rfl
@[simp] theorem State.setFlags_peek (f : Flags) (a : Nat) : (s.setFlags f).peek a = s.peek a := rfl

/-! ## `setAFlags` -/

@[simp] theorem State.setAFlags_regs (r : Flagged) : (s.setAFlags r).regs = { s.regs with a := r.value, f := r.flags.pack } := rfl
@[simp] theorem State.setAFlags_ime (r : Flagged) : (s.setAFlags r).ime = s.ime := rfl
@[simp] theorem State.setAFlags_eiDelay (r : Flagged) : (s.setAFlags r).eiDelay = s.eiDelay := rfl
@[simp] theorem State.setAFlags_halted (r : Flagged) : (s.setAFlags r).halted = s.halted := rfl
@[simp] theorem State.setAFlags_stopped (r : Flagged) : (s.setAFlags r).stopped = s.stopped := rfl
@[simp] theorem State.setAFlags_fatal (r : Flagged) : (s.setAFlags r).fatal = s.fatal := rfl
@[simp] theorem State.setAFlags_steps (r : Flagged) : (s.setAFlags r).steps = s.steps := rfl
@[simp] theorem State.setAFlags_ticks (r : Flagged) : (s.setAFlags r).ticks = s.ticks := rfl
@[simp] theorem State.setAFlags_divCount (r : Flagged) : (s.setAFlags r).divCount = s.divCount := rfl
@[simp] theorem State.setAFlags_timaCount (r : Flagged) : (s.setAFlags r).timaCount = s.timaCount := rfl
@[simp] theorem State.setAFlags_mem (r : Flagged) : (s.setAFlags r).mem = s.mem := rfl
@[simp] theorem State.setAFlags_eram (r : Flagged) : (s.setAFlags r).eram = s.eram := rfl
@[simp] theorem State.setAFlags_mbc (r : Flagged) : (s.setAFlags r).mbc = s.mbc := rfl
@[simp] theorem State.setAFlags_ppu (r : Flagged) : (s.setAFlags r).ppu = s.ppu := rfl
@[simp] theorem State.setAFlags_apu (r : Flagged) : (s.setAFlags r).apu = s.apu := rfl
@[simp] theorem State.setAFlags_buttons (r : Flagged) : (s.setAFlags r).buttons = s.buttons := rfl
@[simp] theorem State.setAFlags_params (r : Flagged) : (s.setAFlags r).params = s.params := rfl
@[simp] theorem State.setAFlags_peek (r : Flagged) (a : Nat) : (s.setAFlags r).peek a = s.peek a := rfl

/-! ## `popped` -/

@[simp] theorem State.popped_regs : s.popped.regs = { s.regs with sp := s.regs.sp + 2 } := rfl
@[simp] theorem State.popped_ime : s.popped.ime = s.ime := rfl
@[simp] theorem State.popped_eiDelay : s.popped.eiDelay = s.eiDelay := rfl
@[simp] theorem State.popped_halted : s.popped.halted = s.halted := rfl
@[simp] theorem State.popped_stopped : s.popped.stopped = s.stopped := rfl
@[simp] theorem State.popped_fatal : s.popped.fatal = s.fatal := rfl
@[simp] theorem State.popped_steps : s.popped.steps = s.steps := rfl
@[simp] theorem State.popped_ticks : s.popped.ticks = s.ticks := rfl
@[simp] theorem State.popped_divCount : s.popped.divCount = s.divCount := rfl
@[simp] theorem State.popped_timaCount : s.popped.timaCount = s.timaCount := rfl
@[simp] theorem State.popped_mem : s.popped.mem = s.mem := rfl
@[simp] theorem State.popped_eram : s.popped.eram = s.eram := rfl
@[simp] theorem State.popped_mbc : s.popped.mbc = s.mbc := rfl
@[simp] theorem State.popped_ppu : s.popped.ppu = s.ppu := rfl
@[simp] theorem State.popped_apu : s.popped.apu = s.apu := rfl
@[simp] theorem State.popped_buttons : s.popped.buttons = s.buttons := rfl
@[simp] theorem State.popped_params : s.popped.params = s.params := rfl
@[simp] theorem State.popped_peek (a : Nat) : s.popped.peek a = s.peek a := rfl

/-! ## `raiseFatal` -/

@[simp] theorem State.raiseFatal_regs (op : Byte) : (s.raiseFatal op).regs = s.regs := rfl
@[simp] theorem State.raiseFatal_ime (op : Byte) : (s.raiseFatal op).ime = s.ime := rfl
@[simp] theorem State.raiseFatal_eiDelay (op : Byte) : (s.raiseFatal op).eiDelay = s.eiDelay := rfl
@[simp] theorem State.raiseFatal_halted (op : Byte) : (s.raiseFatal op).halted = s.halted := rfl
@[simp] theorem State.raiseFatal_stopped (op : Byte) : (s.raiseFatal op).stopped = s.stopped := rfl
@[simp] theorem State.raiseFatal_fatal (op : Byte) : (s.raiseFatal op).fatal = some { opcode := op, steps := s.steps } := rfl
@[simp] theorem State.raiseFatal_steps (op : Byte) : (s.raiseFatal op).steps = s.steps := rfl
@[simp] theorem State.raiseFatal_ticks (op : Byte) : (s.raiseFatal op).ticks = s.ticks := rfl
@[simp] theorem State.raiseFatal_divCount (op : Byte) : (s.raiseFatal op).divCount = s.divCount := rfl
@[simp] theorem State.raiseFatal_timaCount (op : Byte) : (s.raiseFatal op).timaCount = s.timaCount := rfl
@[simp] theorem State.raiseFatal_mem (op : Byte) : (s.raiseFatal op).mem = s.mem := rfl
@[simp] theorem State.raiseFatal_eram (op : Byte) : (s.raiseFatal op).eram = s.eram := rfl
@[simp] theorem State.raiseFatal_mbc (op : Byte) : (s.raiseFatal op).mbc = s.mbc := rfl
@[simp] theorem State.raiseFatal_ppu (op : Byte) : (s.raiseFatal op).ppu = s.ppu := rfl
@[simp] theorem State.raiseFatal_apu (op : Byte) : (s.raiseFatal op).apu = s.apu := rfl
@[simp] theorem State.raiseFatal_buttons (op : Byte) : (s.raiseFatal op).buttons = s.buttons := rfl
@[simp] theorem State.raiseFatal_params (op : Byte) : (s.raiseFatal op).params = s.params := rfl
@[simp] theorem State.raiseFatal_peek (op : Byte) (a : Nat) : (s.raiseFatal op).peek a = s.peek a := rfl

/-! ## `setMode` -/

@[simp] theorem State.setMode_regs (m : PpuMode) : (s.setMode m).regs = s.regs := rfl
@[simp] theorem State.setMode_ime (m : PpuMode) : (s.setMode m).ime = s.ime := rfl
@[simp] theorem State.setMode_eiDelay (m : PpuMode) : (s.setMode m).eiDelay = s.eiDelay := rfl
@[simp] theorem State.setMode_halted (m : PpuMode) : (s.setMode m).halted = s.halted := rfl
@[simp] theorem State.setMode_stopped (m : PpuMode) : (s.setMode m).stopped = s.stopped := rfl
@[simp] theorem State.setMode_fatal (m : PpuMode) : (s.setMode m).fatal = s.fatal := rfl
@[simp] theorem State.setMode_steps (m : PpuMode) : (s.setMode m).steps = s.steps := rfl
@[simp] theorem State.setMode_ticks (m : PpuMode) : (s.setMode m).ticks = s.ticks := rfl
@[simp] theorem State.setMode_divCount (m : PpuMode) : (s.setMode m).divCount = s.divCount := rfl
@[simp] theorem State.setMode_timaCount (m : PpuMode) : (s.setMode m).timaCount = s.timaCount := rfl
@[simp] theorem State.setMode_mem (m : PpuMode) : (s.setMode m).mem = s.mem := rfl
@[simp] theorem State.setMode_eram (m : PpuMode) : (s.setMode m).eram = s.eram := rfl
@[simp] theorem State.setMode_mbc (m : PpuMode) : (s.setMode m).mbc = s.mbc := rfl
@[simp] theorem State.setMode_ppu (m : PpuMode) : (s.setMode m).ppu = { s.ppu with mode := m } := rfl
@[simp] theorem State.setMode_apu (m : PpuMode) : (s.setMode m).apu = s.apu := rfl
@[simp] theorem State.setMode_buttons (m : PpuMode) : (s.setMode m).buttons = s.buttons := rfl
@[simp] theorem State.setMode_params (m : PpuMode) : (s.setMode m).params = s.params := rfl
@[simp] theorem State.setMode_peek (m : PpuMode) (a : Nat) : (s.setMode m).peek a = s.peek a := rfl

/-! ## `setLine` -/

@[simp] theorem State.setLine_regs (n : Nat) : (s.setLine n).regs = s.regs := rfl
@[simp] theorem State.setLine_ime (n : Nat) : (s.setLine n).ime = s.ime := rfl
@[simp] theorem State.setLine_eiDelay (n : Nat) : (s.setLine n).eiDelay = s.eiDelay := rfl
@[simp] theorem State.setLine_halted (n : Nat) : (s.setLine n).halted = s.halted := rfl
@[simp] theorem State.setLine_stopped (n : Nat) : (s.setLine n).stopped = s.stopped := rfl
@[simp] theorem State.setLine_fatal (n : Nat) : (s.setLine n).fatal = s.fatal := rfl
@[simp] theorem State.setLine_steps (n : Nat) : (s.setLine n).steps = s.steps := rfl
@[simp] theorem State.setLine_ticks (n : Nat) : (s.setLine n).ticks = s.ticks := rfl
@[simp] theorem State.setLine_divCount (n : Nat) : (s.setLine n).divCount = s.divCount := rfl
@[simp] theorem State.setLine_timaCount (n : Nat) : (s.setLine n).timaCount = s.timaCount := rfl
@[simp] theorem State.setLine_mem (n : Nat) : (s.setLine n).mem = s.mem := rfl
@[simp] theorem State.setLine_eram (n : Nat) : (s.setLine n).eram = s.eram := rfl
@[simp] theorem State.setLine_mbc (n : Nat) : (s.setLine n).mbc = s.mbc := rfl
@[simp] theorem State.setLine_ppu (n : Nat) : (s.setLine n).ppu = { s.ppu with line := n } := rfl
@[simp] theorem State.setLine_apu (n : Nat) : (s.setLine n).apu = s.apu := rfl
@[simp] theorem State.setLine_buttons (n : Nat) : (s.setLine n).buttons = s.buttons := rfl
@[simp] theorem State.setLine_params (n : Nat) : (s.setLine n).params = s.params := rfl
@[simp] theorem State.setLine_peek (n : Nat) (a : Nat) : (s.setLine n).peek a = s.peek a := rfl

/-! ## `setBudget` -/

@[simp] theorem State.setBudget_regs (n : Nat) : (s.setBudget n).regs = s.regs := rfl
@[simp] theorem State.setBudget_ime (n : Nat) : (s.setBudget n).ime = s.ime := rfl
@[simp] theorem State.setBudget_eiDelay (n : Nat) : (s.setBudget n).eiDelay = s.eiDelay := rfl
@[simp] theorem State.setBudget_halted (n : Nat) : (s.setBudget n).halted = s.halted := rfl
@[simp] theorem State.setBudget_stopped (n : Nat) : (s.setBudget n).stopped = s.stopped := rfl
@[simp] theorem State.setBudget_fatal (n : Nat) : (s.setBudget n).fatal = s.fatal := rfl
@[simp] theorem State.setBudget_steps (n : Nat) : (s.setBudget n).steps = s.steps := rfl
@[simp] theorem State.setBudget_ticks (n : Nat) : (s.setBudget n).ticks = s.ticks := rfl
@[simp] theorem State.setBudget_divCount (n : Nat) : (s.setBudget n).divCount = s.divCount := rfl
@[simp] theorem State.setBudget_timaCount (n : Nat) : (s.setBudget n).timaCount = s.timaCount := rfl
@[simp] theorem State.setBudget_mem (n : Nat) : (s.setBudget n).mem = s.mem := rfl
@[simp] theorem State.setBudget_eram (n : Nat) : (s.setBudget n).eram = s.eram := rfl
@[simp] theorem State.setBudget_mbc (n : Nat) : (s.setBudget n).mbc = s.mbc := rfl
@[simp] theorem State.setBudget_ppu (n : Nat) : (s.setBudget n).ppu = { s.ppu with budget := n } := rfl
@[simp] theorem State.setBudget_apu (n : Nat) : (s.setBudget n).apu = s.apu := rfl
@[simp] theorem State.setBudget_buttons (n : Nat) : (s.setBudget n).buttons = s.buttons := rfl
@[simp] theorem State.setBudget_params (n : Nat) : (s.setBudget n).params = s.params := rfl
@[simp] theorem State.setBudget_peek (n : Nat) (a : Nat) : (s.setBudget n).peek a = s.peek a := rfl

end Sys2Proof.Machine
end

