-- ==== Sys2Proof/Laws/Bus.lean ====
section
/-! SUPPORT. What the bus operations can do: which parts of the state a write leaves alone, that every write keeps the
canonical form of memory, and the same of the stack and of interrupt entry. -/

namespace Sys2Proof.Machine

/-! ## The whole effect of a bus write, said once -/

/-- Copying into OAM changes memory only. -/
theorem State.oamCopy_eq (s : State) (v : Byte) (k : Nat) : ∃ m, s.oamCopy v k = { s with mem := m } := by
  induction k with
  | zero => exact ⟨s.mem, rfl⟩
  | succ k ih =>
    obtain ⟨m, hm⟩ := ih
    exact ⟨_, by rw [State.oamCopy, hm]; rfl⟩

/-- What the side effects of a write can do, case by case (R89, second half). -/
theorem State.writeEffects_cases (P : State → Prop) (s : State) (old : Byte) (n : Nat) (v : Byte) (h0 : P s)
    (hup : 0xC000 ≤ n → n ≤ 0xDDFF → P (s.poke (n + 0x2000) v))
    (hdown : 0xE000 ≤ n → n ≤ 0xFDFF → P (s.poke (n - 0x2000) v))
    (htac : n = 0xFF07 → field old 0 2 ≠ field v 0 2 → P { s with timaCount := 0 })
    (h1 : n = 0xFF14 → P s.trigger1) (h2 : n = 0xFF19 → P s.trigger2) (h3 : n = 0xFF1E → P s.trigger3)
    (h4 : n = 0xFF23 → P s.trigger4) (hdma : n = 0xFF46 → P (s.oamDma v)) : P (s.writeEffects old n v) := by
  unfold State.writeEffects
  split
  · rename_i h; exact hup h.1 h.2
  split
  · rename_i h; exact hdown h.1 h.2
  split
  · rename_i h
    split
    · rename_i h'; exact htac h h'
    · exact h0
  split
  · rename_i h
    split
    · exact h1 h
    · exact h0
  split
  · rename_i h
    split
    · exact h2 h
    · exact h0
  split
  · rename_i h
    split
    · exact h3 h
    · exact h0
  split
  · rename_i h
    split
    · exact h4 h
    · exact h0
  split
  · rename_i h; exact hdma h
  · exact h0

/-- What the store of a write can do, case by case (R89, first half). -/
theorem State.storeByte_cases (P : State → Prop) (s : State) (n : Nat) (v : Byte) (h0 : n = 0xFF44 → P s)
    (hdiv : n = 0xFF04 → P { s.poke n 0x00 with divCount := 0 }) (hst : ∀ w, P (s.poke n w)) : P (s.storeByte n v) := by
  unfold State.storeByte
  split
  · exact hst _
  split
  · rename_i h; exact hdiv h
  split
  · exact hst _
  split
  · rename_i h; exact h0 h
  · exact hst _

/-- What a bus write can do, case by case (R89). -/
theorem State.memWrite_cases (P : State → Prop) (s : State) (a : Word) (v : Byte)
    (hcart : a.toNat ≤ 0x7FFF → P (s.cartWrite a.toNat v))
    (heram : 0xA000 ≤ a.toNat → a.toNat ≤ 0xBFFF → P (s.eramWrite a.toNat v))
    (hbus : Store.holds .bus a.toNat = true → P ((s.storeByte a.toNat v).writeEffects (s.peek a.toNat) a.toNat v)) :
    P (s.memWrite a v) := by
  have ha := a.isLt
  unfold State.memWrite
  dsimp only
  split
  · rename_i h; exact hcart h
  split
  · rename_i h; exact heram h.1 h.2
  · rename_i h1 h2
    refine hbus ?_
    simp only [Store.holds, Bool.or_eq_true, Bool.and_eq_true, decide_eq_true_eq]
    omega

/-- Two states that agree on everything a bus write leaves alone. -/
def State.BusOnly (s t : State) : Prop :=
  ∃ m e b p d c, t = { s with mem := m, eram := e, mbc := b, apu := p, divCount := d, timaCount := c }

theorem State.BusOnly.trans {s t u : State} (h : s.BusOnly t) (h' : t.BusOnly u) : s.BusOnly u := by
  obtain ⟨_, _, _, _, _, _, rfl⟩ := h
  obtain ⟨_, _, _, _, _, _, rfl⟩ := h'
  exact ⟨_, _, _, _, _, _, rfl⟩

/-- A bus write changes memory, external RAM, bank registers, audio state and the two sub-counts, and nothing else. -/
theorem State.memWrite_busOnly (s : State) (a : Word) (v : Byte) : s.BusOnly (s.memWrite a v) := by
  refine State.memWrite_cases s.BusOnly s a v (fun _ => ?_) (fun _ _ => ?_) (fun _ => ?_)
  · unfold State.cartWrite
    split <;> exact ⟨_, _, _, _, _, _, rfl⟩
  · unfold State.eramWrite
    split <;> exact ⟨_, _, _, _, _, _, rfl⟩
  · have hs : s.BusOnly (s.storeByte a.toNat v) :=
      State.storeByte_cases s.BusOnly s _ v (fun _ => ⟨_, _, _, _, _, _, rfl⟩) (fun _ => ⟨_, _, _, _, _, _, rfl⟩)
        (fun _ => ⟨_, _, _, _, _, _, rfl⟩)
    refine hs.trans ?_
    generalize s.storeByte a.toNat v = t
    refine State.writeEffects_cases t.BusOnly t _ _ v ⟨_, _, _, _, _, _, rfl⟩ (fun _ _ => ⟨_, _, _, _, _, _, rfl⟩)
      (fun _ _ => ⟨_, _, _, _, _, _, rfl⟩) (fun _ _ => ⟨_, _, _, _, _, _, rfl⟩) (fun _ => ⟨_, _, _, _, _, _, rfl⟩)
      (fun _ => ⟨_, _, _, _, _, _, rfl⟩) (fun _ => ⟨_, _, _, _, _, _, rfl⟩) (fun _ => ⟨_, _, _, _, _, _, rfl⟩) (fun _ => ?_)
    obtain ⟨m, hm⟩ := t.oamCopy_eq v 160
    exact ⟨m, t.eram, t.mbc, t.apu, t.divCount, t.timaCount, hm⟩

section Frame
variable (s : State) (a : Word) (v : Byte)

@[simp] theorem State.memWrite_regs : (s.memWrite a v).regs = s.regs := by
  obtain ⟨_, _, _, _, _, _, h⟩ := s.memWrite_busOnly a v; rw [h]

@[simp] theorem State.memWrite_ime : (s.memWrite a v).ime = s.ime := by
  obtain ⟨_, _, _, _, _, _, h⟩ := s.memWrite_busOnly a v; rw [h]

@[simp] theorem State.memWrite_eiDelay : (s.memWrite a v).eiDelay = s.eiDelay := by
  obtain ⟨_, _, _, _, _, _, h⟩ := s.memWrite_busOnly a v; rw [h]

@[simp] theorem State.memWrite_halted : (s.memWrite a v).halted = s.halted := by
  obtain ⟨_, _, _, _, _, _, h⟩ := s.memWrite_busOnly a v; rw [h]

@[simp] theorem State.memWrite_stopped : (s.memWrite a v).stopped = s.stopped := by
  obtain ⟨_, _, _, _, _, _, h⟩ := s.memWrite_busOnly a v; rw [h]

@[simp] theorem State.memWrite_fatal : (s.memWrite a v).fatal = s.fatal := by
  obtain ⟨_, _, _, _, _, _, h⟩ := s.memWrite_busOnly a v; rw [h]

@[simp] theorem State.memWrite_steps : (s.memWrite a v).steps = s.steps := by
  obtain ⟨_, _, _, _, _, _, h⟩ := s.memWrite_busOnly a v; rw [h]

@[simp] theorem State.memWrite_ticks : (s.memWrite a v).ticks = s.ticks := by
  obtain ⟨_, _, _, _, _, _, h⟩ := s.memWrite_busOnly a v; rw [h]

@[simp] theorem State.memWrite_ppu : (s.memWrite a v).ppu = s.ppu := by
  obtain ⟨_, _, _, _, _, _, h⟩ := s.memWrite_busOnly a v; rw [h]

@[simp] theorem State.memWrite_buttons : (s.memWrite a v).buttons = s.buttons := by
  obtain ⟨_, _, _, _, _, _, h⟩ := s.memWrite_busOnly a v; rw [h]

@[simp] theorem State.memWrite_params : (s.memWrite a v).params = s.params := by
  obtain ⟨_, _, _, _, _, _, h⟩ := s.memWrite_busOnly a v; rw [h]

end Frame

/-! ## Memory keeps its form -/

/-- The addresses the bus stores to directly are addresses of the backing store. -/
theorem Store.bus_holds {a : Nat} (h : (0x8000 ≤ a ∧ a ≤ 0x9FFF) ∨ (0xC000 ≤ a ∧ a ≤ 0xFFFF)) :
    Store.holds .bus a = true := by
  simp only [Store.holds, Bool.or_eq_true, Bool.and_eq_true, decide_eq_true_eq]
  exact h

/-- Copying into OAM is a sequence of writes to the backing store. -/
theorem State.oamCopy_mem_induct (P : Memory → Prop)
    (hP : ∀ m a v, Store.holds .bus a = true → P m → P (Memory.write .bus m a v)) (s : State) (v : Byte) (k : Nat)
    (hk : k ≤ 160) (h : P s.mem) : P (s.oamCopy v k).mem := by
  induction k with
  | zero => exact h
  | succ k ih =>
    rw [State.oamCopy]
    exact hP _ _ _ (Store.bus_holds (by omega)) (ih (by omega))

/-- The backing store after a bus write is reached by writes to its own addresses: what every such write keeps, a bus
write keeps. -/
theorem State.memWrite_mem_induct (P : Memory → Prop)
    (hP : ∀ m a v, Store.holds .bus a = true → P m → P (Memory.write .bus m a v)) (s : State) (a : Word) (v : Byte)
    (h : P s.mem) : P (s.memWrite a v).mem := by
  refine State.memWrite_cases (fun t => P t.mem) s a v (fun _ => ?_) (fun _ _ => ?_) (fun hh => ?_)
  · unfold State.cartWrite
    split <;> exact h
  · unfold State.eramWrite
    split <;> exact h
  · have hs : P (s.storeByte a.toNat v).mem :=
      State.storeByte_cases (fun t => P t.mem) s _ v (fun _ => h) (fun _ => hP _ _ _ hh h) (fun _ => hP _ _ _ hh h)
    generalize s.storeByte a.toNat v = t at hs ⊢
    refine State.writeEffects_cases (fun t => P t.mem) t _ _ v hs (fun _ _ => hP _ _ _ (Store.bus_holds (by omega)) hs)
      (fun _ _ => hP _ _ _ (Store.bus_holds (by omega)) hs) (fun _ _ => hs) (fun _ => hs) (fun _ => hs) (fun _ => hs)
      (fun _ => hs) (fun _ => State.oamCopy_mem_induct P hP t v 160 (Nat.le_refl _) hs)

/-- The cell of the external RAM a window address selects exists. -/
theorem State.eramIndex_holds (s : State) {n : Nat} (h1 : 0xA000 ≤ n) (h2 : n ≤ 0xBFFF) :
    Store.holds .eram (s.eramIndex n) = true := by
  have hb : s.mbc.bankHi.toNat % s.params.ramBanks < 2 ^ 2 := Nat.lt_of_le_of_lt (Nat.mod_le _ _) s.mbc.bankHi.isLt
  show decide (s.mbc.bankHi.toNat % s.params.ramBanks * 8192 + (n - 0xA000) < 32768) = true
  generalize s.mbc.bankHi.toNat % s.params.ramBanks = k at hb ⊢
  exact decide_eq_true (by omega)

/-- A bus write writes at most one existing cell of the external RAM. -/
theorem State.memWrite_eram_induct (P : Memory → Prop)
    (hP : ∀ m a v, Store.holds .eram a = true → P m → P (Memory.write .eram m a v)) (s : State) (a : Word) (v : Byte)
    (h : P s.eram) : P (s.memWrite a v).eram := by
  refine State.memWrite_cases (fun t => P t.eram) s a v (fun _ => ?_) (fun h1 h2 => ?_) (fun _ => ?_)
  · unfold State.cartWrite
    split <;> exact h
  · unfold State.eramWrite
    split
    · exact hP _ _ _ (s.eramIndex_holds h1 h2) h
    · exact h
  · have hs : P (s.storeByte a.toNat v).eram :=
      State.storeByte_cases (fun t => P t.eram) s _ v (fun _ => h) (fun _ => h) (fun _ => h)
    generalize s.storeByte a.toNat v = t at hs ⊢
    refine State.writeEffects_cases (fun t => P t.eram) t _ _ v hs (fun _ _ => hs) (fun _ _ => hs) (fun _ _ => hs)
      (fun _ => hs) (fun _ => hs) (fun _ => hs) (fun _ => hs) (fun _ => ?_)
    obtain ⟨m, hm⟩ := t.oamCopy_eq v 160
    rw [State.oamDma, hm]
    exact hs

/-- A bus write keeps the canonical form of the backing store. -/
theorem State.memWrite_mem_wf (s : State) (a : Word) (v : Byte) (h : Memory.wf .bus s.mem = true) :
    Memory.wf .bus (s.memWrite a v).mem = true :=
  s.memWrite_mem_induct (fun m => Memory.wf .bus m = true) (fun _ _ v ha hm => Memory.wf_write v hm ha) a v h

/-- A bus write keeps the canonical form of the external RAM. -/
theorem State.memWrite_eram_wf (s : State) (a : Word) (v : Byte) (h : Memory.wf .eram s.eram = true) :
    Memory.wf .eram (s.memWrite a v).eram = true :=
  s.memWrite_eram_induct (fun m => Memory.wf .eram m = true) (fun _ _ v ha hm => Memory.wf_write v hm ha) a v h

/-! ## The byte store alone -/

/-- The byte just stored. -/
theorem State.peek_poke_same (s : State) (a : Nat) (v : Byte) (h : Memory.wf .bus s.mem = true) :
    (s.poke a v).peek a = v := Memory.read_write_same a v h

/-- Every other byte. -/
theorem State.peek_poke_ne (s : State) {a b : Nat} (v : Byte) (h : Memory.wf .bus s.mem = true) (hab : b ≠ a) :
    (s.poke a v).peek b = s.peek b := Memory.read_write_ne v h hab

/-- A byte store at an address of the backing store keeps the canonical form. -/
theorem State.poke_mem_wf (s : State) {a : Nat} (v : Byte) (h : Memory.wf .bus s.mem = true)
    (ha : Store.holds .bus a = true) : Memory.wf .bus (s.poke a v).mem = true := Memory.wf_write v h ha

/-- Raising a source stores to IF or does nothing. -/
theorem State.raiseIrq_eq (s : State) (k : Irq) : ∃ m, s.raiseIrq k = { s with mem := m } := by
  unfold State.raiseIrq
  split
  · exact ⟨_, rfl⟩
  · exact ⟨s.mem, rfl⟩

/-- Raising a source keeps the canonical form. -/
theorem State.raiseIrq_mem_wf (s : State) (k : Irq) (h : Memory.wf .bus s.mem = true) :
    Memory.wf .bus (s.raiseIrq k).mem = true := by
  unfold State.raiseIrq
  split
  · exact s.poke_mem_wf _ h (Store.bus_holds (by decide))
  · exact h

/-- Raising a source changes no byte but IF. -/
theorem State.raiseIrq_peek_ne (s : State) (k : Irq) {b : Nat} (h : Memory.wf .bus s.mem = true) (hb : b ≠ 0xFF0F) :
    (s.raiseIrq k).peek b = s.peek b := by
  unfold State.raiseIrq
  split
  · exact s.peek_poke_ne _ h hb
  · rfl

/-! ## The stack -/

section Stack
variable (s : State) (w : Word)

/-- A push leaves SP two lower. -/
@[simp] theorem State.push16_regs : (s.push16 w).regs = { s.regs with sp := s.regs.sp - 1 - 1 } := by
  simp [State.push16, State.pushByte]

@[simp] theorem State.push16_ime : (s.push16 w).ime = s.ime := by simp [State.push16, State.pushByte]
@[simp] theorem State.push16_eiDelay : (s.push16 w).eiDelay = s.eiDelay := by simp [State.push16, State.pushByte]
@[simp] theorem State.push16_halted : (s.push16 w).halted = s.halted := by simp [State.push16, State.pushByte]
@[simp] theorem State.push16_stopped : (s.push16 w).stopped = s.stopped := by simp [State.push16, State.pushByte]
@[simp] theorem State.push16_fatal : (s.push16 w).fatal = s.fatal := by simp [State.push16, State.pushByte]
@[simp] theorem State.push16_steps : (s.push16 w).steps = s.steps := by simp [State.push16, State.pushByte]
@[simp] theorem State.push16_ticks : (s.push16 w).ticks = s.ticks := by simp [State.push16, State.pushByte]
@[simp] theorem State.push16_ppu : (s.push16 w).ppu = s.ppu := by simp [State.push16, State.pushByte]
@[simp] theorem State.push16_buttons : (s.push16 w).buttons = s.buttons := by simp [State.push16, State.pushByte]
@[simp] theorem State.push16_params : (s.push16 w).params = s.params := by simp [State.push16, State.pushByte]

end Stack

/-- A push is two changes of SP, each followed by a bus write. -/
theorem State.push16_induct (P : State → Prop) (hsp : ∀ t w, P t → P (t.setSp w))
    (hw : ∀ t a v, P t → P (t.memWrite a v)) (s : State) (w : Word) (h : P s) : P (s.push16 w) :=
  hw _ _ _ (hsp _ _ (hw _ _ _ (hsp _ _ h)))

/-- Interrupt entry is a store to IF, the master enable cleared, a push, a jump and 20 ticks (R403): what those keep, it
keeps. -/
theorem State.enterInterrupt_induct (P : State → Prop) (hif : ∀ t v, P t → P (t.poke 0xFF0F v))
    (hime : ∀ t, P t → P { t with ime := false, eiDelay := 0 }) (hsp : ∀ t w, P t → P (t.setSp w))
    (hw : ∀ t a v, P t → P (t.memWrite a v)) (hpc : ∀ t w, P t → P (t.setPc w)) (htick : ∀ t, P t → P (t.tick 20))
    (s : State) (k : Irq) (h : P s) : P (s.enterInterrupt k) :=
  htick _ (hpc _ _ (State.push16_induct P hsp hw _ _ (hime _ (hif _ _ h))))

/-! ## A bus write and the CPU's own fields -/

/-- The CPU's own fields replaced: registers, interrupt control, HALT and the tick counter. -/
def State.withCpu (g : Regs) (ime : Bool) (d : Nat) (halted : Bool) (ticks : Nat) (s : State) : State :=
  { s with regs := g, ime := ime, eiDelay := d, halted := halted, ticks := ticks }

/-- Copying into OAM neither reads nor writes them. -/
theorem State.oamCopy_withCpu (g : Regs) (b : Bool) (d : Nat) (h : Bool) (n : Nat) (s : State) (v : Byte) (k : Nat) :
    (s.withCpu g b d h n).oamCopy v k = (s.oamCopy v k).withCpu g b d h n := by
  induction k with
  | zero => rfl
  | succ k ih => rw [State.oamCopy, State.oamCopy, ih]; rfl

/-- The store of a write neither reads nor writes them. -/
theorem State.storeByte_withCpu (g : Regs) (b : Bool) (d : Nat) (h : Bool) (n : Nat) (s : State) (a : Nat) (v : Byte) :
    (s.withCpu g b d h n).storeByte a v = (s.storeByte a v).withCpu g b d h n := by
  unfold State.storeByte
  repeat' split
  all_goals rfl

/-- The side effects of a write neither read nor write them. -/
theorem State.writeEffects_withCpu (g : Regs) (b : Bool) (d : Nat) (h : Bool) (n : Nat) (s : State) (old : Byte) (a : Nat)
    (v : Byte) : (s.withCpu g b d h n).writeEffects old a v = (s.writeEffects old a v).withCpu g b d h n := by
  have hd : (s.withCpu g b d h n).oamDma v = (s.oamDma v).withCpu g b d h n := State.oamCopy_withCpu g b d h n s v 160
  unfold State.writeEffects
  rw [hd]
  generalize s.oamDma v = dma
  repeat' split
  all_goals rfl

/-- A bus write neither reads nor writes the CPU's own fields. -/
theorem State.memWrite_withCpu (g : Regs) (b : Bool) (d : Nat) (h : Bool) (n : Nat) (s : State) (a : Word) (v : Byte) :
    (s.withCpu g b d h n).memWrite a v = (s.memWrite a v).withCpu g b d h n := by
  have h1 : ∀ k, (s.withCpu g b d h n).cartWrite k v = (s.cartWrite k v).withCpu g b d h n := fun k => by
    unfold State.cartWrite; simp only [State.withCpu]; split <;> rfl
  have h2 : ∀ k, (s.withCpu g b d h n).eramWrite k v = (s.eramWrite k v).withCpu g b d h n := fun k => by
    unfold State.eramWrite
    have : (s.withCpu g b d h n).eramOpen = s.eramOpen := rfl
    rw [this]; split <;> rfl
  unfold State.memWrite
  dsimp only
  rw [h1, h2, State.storeByte_withCpu, show (s.withCpu g b d h n).peek a.toNat = s.peek a.toNat from rfl,
    State.writeEffects_withCpu]
  repeat' split
  all_goals rfl

end Sys2Proof.Machine
end

