-- ==== Sys2Proof/Laws/Timer.lean ====
section
/-! SUPPORT. What the divider and the timer can do: they write DIV, TIMA, IF and the two sub-counts, and nothing else. -/

namespace Sys2Proof.Machine

/-- What every application of `f` keeps, `n` of them keep. -/
theorem repeatN_induct {α : Type} (P : α → Prop) (f : α → α) (hf : ∀ x, P x → P (f x)) (n : Nat) (x : α) (h : P x) :
    P (repeatN f n x) := by
  induction n generalizing x with
  | zero => exact h
  | succ n ih => exact ih _ (hf _ h)

/-- Repetition adds up. -/
theorem repeatN_add {α : Type} (f : α → α) (m n : Nat) (x : α) : repeatN f (m + n) x = repeatN f n (repeatN f m x) := by
  induction m generalizing x with
  | zero => rw [Nat.zero_add]; rfl
  | succ m ih => rw [Nat.succ_add]; exact ih _

/-- One timer increment changes memory only. -/
theorem State.timerIncrement_eq (s : State) : ∃ m, s.timerIncrement = { s with mem := m } := by
  unfold State.timerIncrement
  split
  · obtain ⟨m, hm⟩ := (s.poke 0xFF05 (s.peek 0xFF06)).raiseIrq_eq .timer
    exact ⟨m, hm⟩
  · exact ⟨_, rfl⟩

/-- Any number of timer increments change memory only. -/
theorem State.timerIncrements_eq (s : State) (n : Nat) : ∃ m, repeatN State.timerIncrement n s = { s with mem := m } :=
  repeatN_induct (fun t => ∃ m, t = { s with mem := m }) _
    (fun t ⟨m, hm⟩ => by obtain ⟨m', h'⟩ := t.timerIncrement_eq; exact ⟨m', by rw [h', hm]⟩) n s ⟨s.mem, rfl⟩

/-- Advancing the divider and the timer changes memory and the two sub-counts only. -/
theorem State.advanceTimers_eq (s : State) (d : Nat) :
    ∃ m c k, s.advanceTimers d = { s with mem := m, divCount := c, timaCount := k } := by
  unfold State.advanceTimers State.advanceTimer
  dsimp only
  split
  · obtain ⟨m, hm⟩ := (s.advanceDivider d).timerIncrements_eq
      (((s.advanceDivider d).timaCount + d) / tacPeriod ((s.advanceDivider d).peek 0xFF07))
    rw [hm]
    exact ⟨_, _, _, rfl⟩
  · exact ⟨_, _, _, rfl⟩

/-- The bytes the divider and the timer write are DIV, TIMA and IF: what such writes keep, they keep. -/
theorem State.advanceTimers_mem_induct (P : Memory → Prop)
    (hP : ∀ m a v, a = 0xFF04 ∨ a = 0xFF05 ∨ a = 0xFF0F → P m → P (Memory.write .bus m a v)) (s : State) (d : Nat)
    (h : P s.mem) : P (s.advanceTimers d).mem := by
  have hraise : ∀ t : State, P t.mem → P (t.raiseIrq .timer).mem := fun t ht => by
    unfold State.raiseIrq
    split
    · exact hP _ _ _ (Or.inr (Or.inr rfl)) ht
    · exact ht
  have hinc : ∀ t : State, P t.mem → P t.timerIncrement.mem := fun t ht => by
    unfold State.timerIncrement
    split
    · exact hraise _ (hP _ _ _ (Or.inr (Or.inl rfl)) ht)
    · exact hP _ _ _ (Or.inr (Or.inl rfl)) ht
  have hdiv : P (s.advanceDivider d).mem := hP _ _ _ (Or.inl rfl) h
  unfold State.advanceTimers State.advanceTimer
  dsimp only
  split
  · exact repeatN_induct (fun t : State => P t.mem) _ hinc _ _ hdiv
  · exact hdiv

/-- The divider's sub-count after an advance. -/
theorem State.advanceTimers_divCount (s : State) (d : Nat) : (s.advanceTimers d).divCount = (s.divCount + d) % 256 := by
  unfold State.advanceTimers State.advanceTimer
  dsimp only
  split
  · obtain ⟨m, hm⟩ := (s.advanceDivider d).timerIncrements_eq
      (((s.advanceDivider d).timaCount + d) / tacPeriod ((s.advanceDivider d).peek 0xFF07))
    rw [hm]
    rfl
  · rfl

/-- Every timer period is positive. -/
theorem tacPeriod_pos (tac : Byte) : 0 < tacPeriod tac := by
  unfold tacPeriod
  split <;> decide

end Sys2Proof.Machine
end

