-- ==== Sys2Proof/Laws/Apu.lean ====
section
/-! SUPPORT. What one APU tick and the advance of a sample can do: each channel writes itself, channel 1 also its sweep and,
through the sweep, memory, and nothing else. -/

namespace Sys2Proof.Machine

/-- A sweep step changes memory, the sweep and whether channel 1 sounds. -/
theorem State.sweepTick_eq (s : State) :
    ∃ m c w, s.sweepTick = { s with mem := m, apu := { s.apu with ch1 := c, sweep := w } } := by
  unfold State.sweepTick
  split
  · exact ⟨_, _, _, rfl⟩
  · split
    · dsimp only
      split
      · exact ⟨_, _, _, rfl⟩
      · split
        · exact ⟨_, _, _, rfl⟩
        · exact ⟨_, _, _, rfl⟩
    · exact ⟨_, _, _, rfl⟩

/-- A tick of channel 1 changes memory, the channel and its sweep. -/
theorem State.apuTick1_eq (s : State) :
    ∃ m c w, s.apuTick1 = { s with mem := m, apu := { s.apu with ch1 := c, sweep := w } } := by
  unfold State.apuTick1
  split
  · dsimp only
    split
    · exact State.sweepTick_eq _
    · exact ⟨_, _, _, rfl⟩
  · exact ⟨_, _, _, rfl⟩

/-- A tick of channel 2 changes the channel. -/
theorem State.apuTick2_eq (s : State) : ∃ c, s.apuTick2 = { s with apu := { s.apu with ch2 := c } } := by
  unfold State.apuTick2
  split <;> exact ⟨_, rfl⟩

/-- A tick of channel 3 changes the channel. -/
theorem State.apuTick3_eq (s : State) : ∃ c, s.apuTick3 = { s with apu := { s.apu with ch3 := c } } := by
  unfold State.apuTick3
  split <;> exact ⟨_, rfl⟩

/-- A tick of channel 4 changes the channel. -/
theorem State.apuTick4_eq (s : State) : ∃ c, s.apuTick4 = { s with apu := { s.apu with ch4 := c } } := by
  unfold State.apuTick4
  split <;> exact ⟨_, rfl⟩

/-- Any number of ticks of channel 1 change memory, the channel and its sweep. -/
theorem State.apuTicks1_eq (s : State) (n : Nat) :
    ∃ m c w, repeatN State.apuTick1 n s = { s with mem := m, apu := { s.apu with ch1 := c, sweep := w } } :=
  repeatN_induct (fun t => ∃ m c w, t = { s with mem := m, apu := { s.apu with ch1 := c, sweep := w } }) _
    (fun t ⟨_, _, _, ht⟩ => by subst ht; exact State.apuTick1_eq _) n s ⟨_, _, _, rfl⟩

/-- Any number of ticks of channel 2 change the channel. -/
theorem State.apuTicks2_eq (s : State) (n : Nat) : ∃ c, repeatN State.apuTick2 n s = { s with apu := { s.apu with ch2 := c } } :=
  repeatN_induct (fun t => ∃ c, t = { s with apu := { s.apu with ch2 := c } }) _
    (fun t ⟨_, ht⟩ => by subst ht; exact State.apuTick2_eq _) n s ⟨_, rfl⟩

/-- Any number of ticks of channel 3 change the channel. -/
theorem State.apuTicks3_eq (s : State) (n : Nat) : ∃ c, repeatN State.apuTick3 n s = { s with apu := { s.apu with ch3 := c } } :=
  repeatN_induct (fun t => ∃ c, t = { s with apu := { s.apu with ch3 := c } }) _
    (fun t ⟨_, ht⟩ => by subst ht; exact State.apuTick3_eq _) n s ⟨_, rfl⟩

/-- Any number of ticks of channel 4 change the channel. -/
theorem State.apuTicks4_eq (s : State) (n : Nat) : ∃ c, repeatN State.apuTick4 n s = { s with apu := { s.apu with ch4 := c } } :=
  repeatN_induct (fun t => ∃ c, t = { s with apu := { s.apu with ch4 := c } }) _
    (fun t ⟨_, ht⟩ => by subst ht; exact State.apuTick4_eq _) n s ⟨_, rfl⟩

/-- The advance of one sample changes memory and the audio state, and of the audio state not the two sample counters. -/
theorem State.apuAdvance_eq (s : State) (d : Nat) :
    ∃ m c1 w c2 c3 c4, s.apuAdvance d =
      { s with mem := m, apu := { s.apu with ch1 := c1, sweep := w, ch2 := c2, ch3 := c3, ch4 := c4 } } := by
  unfold State.apuAdvance
  obtain ⟨m, c1, w, h1⟩ := s.apuTicks1_eq d
  rw [h1]
  obtain ⟨c2, h2⟩ := State.apuTicks2_eq { s with mem := m, apu := { s.apu with ch1 := c1, sweep := w } } d
  rw [h2]
  obtain ⟨c3, h3⟩ := State.apuTicks3_eq
    { s with mem := m, apu := { s.apu with ch1 := c1, sweep := w, ch2 := c2 } } d
  rw [h3]
  obtain ⟨c4, h4⟩ := State.apuTicks4_eq
    { s with mem := m, apu := { s.apu with ch1 := c1, sweep := w, ch2 := c2, ch3 := c3 } } d
  exact ⟨m, c1, w, c2, c3, c4, h4⟩

end Sys2Proof.Machine
end

