-- ==== Sys2Proof/Laws/Flags.lean ====
section
/-! SUPPORT. The bits of F: what packing the flags gives, and that unpacking undoes it (R24). -/

namespace Sys2Proof.Machine

/-- Bits 3..0 of packed flags are zero. -/
@[simp] theorem Flags.pack_low (f : Flags) : f.pack &&& 0x0F = 0 := by
  obtain ⟨z, n, h, c⟩ := f
  cases z <;> cases n <;> cases h <;> cases c <;> decide

/-- Unpacking packed flags gives them back. -/
@[simp] theorem Flags.unpack_pack (f : Flags) : Flags.unpack f.pack = f := by
  obtain ⟨z, n, h, c⟩ := f
  cases z <;> cases n <;> cases h <;> cases c <;> decide

/-- Packed flags as a number: Z 128, N 64, H 32, C 16. -/
theorem Flags.pack_toNat (f : Flags) :
    f.pack.toNat = f.z.toNat * 128 + f.n.toNat * 64 + f.h.toNat * 32 + f.c.toNat * 16 := by
  obtain ⟨z, n, h, c⟩ := f
  cases z <;> cases n <;> cases h <;> cases c <;> decide

/-- Masking with 0xF0 clears the low nibble. -/
theorem low_of_high (v : Byte) : v &&& 0xF0 &&& 0x0F = 0 := by
  rw [BitVec.and_assoc]
  exact BitVec.and_zero

/-- The flags just written. -/
@[simp] theorem State.flags_setFlags (s : State) (f : Flags) : (s.setFlags f).flags = f := Flags.unpack_pack f

end Sys2Proof.Machine
end

