-- ==== Sys2Proof/Laws/Exec.lean ====
section
/-! SUPPORT. What one executed instruction can do, said once for all of them: it moves registers and writes bytes through the
bus, perhaps sets the master enable, HALT or STOP, and costs 4 to 24 ticks; or it is the fatal stop. A proof about every
instruction is a proof about these cases. -/

namespace Sys2Proof.Machine

/-- Registers replaced (F unchanged or with its low nibble zero) and bytes written through the bus, in any order. -/
inductive Moves (s : State) : State → Prop where
  | refl : Moves s s
  | regs {t : State} (g : Regs) (hf : g.f = t.regs.f ∨ g.f &&& 0x0F = 0) (h : Moves s t) : Moves s (t.setRegs g)
  | write {t : State} (a : Word) (v : Byte) (h : Moves s t) : Moves s (t.memWrite a v)

/-- What an executed instruction leaves. -/
inductive Executed (s : State) : State → Prop where
  | moved {t : State} (c : Nat) (hc : 4 ≤ c ∧ c ≤ 24) (h : Moves s t) : Executed s (t.tick c)
  | master {t : State} (b : Bool) (d c : Nat) (hd : d ≤ 2) (hc : 4 ≤ c ∧ c ≤ 24) (h : Moves s t) :
      Executed s (State.tick { t with ime := b, eiDelay := d } c)
  | halted : Executed s (State.tick { s with halted := true } 4)
  | stopped : Executed s (State.tick { s with stopped := true } 4)
  | fatal (op : Byte) : Executed s (s.raiseFatal op)

/-- What setting registers and writing bytes keep, `Moves` keeps. -/
theorem Moves.induct {s t : State} (P : State → Prop)
    (hr : ∀ t g, (g.f = t.regs.f ∨ g.f &&& 0x0F = 0) → P t → P (State.setRegs t g))
    (hw : ∀ t a v, P t → P (State.memWrite t a v)) (h : Moves s t) (h0 : P s) : P t := by
  induction h with
  | refl => exact h0
  | regs g hf _ ih => exact hr _ g hf ih
  | write a v _ ih => exact hw _ a v ih

/-- An answer that, if it is a next state, is one an executed instruction leaves. -/
def Answer.Executes (s : State) (r : Answer) : Prop := ∀ t, r = .next t → Executed s t

section Shared
variable (s : State)

/-- Writing a register leaves F alone. -/
theorem Regs.set_f (r : Reg8) (v : Byte) (g : Regs) : (g.set r v).f = g.f := by cases r <;> rfl

/-- Writing a pair leaves F alone. -/
theorem Regs.setPair_f (p : Pair) (w : Word) (g : Regs) : (g.setPair p w).f = g.f := by cases p <;> rfl

/-- Popping a pair leaves F alone or with its low nibble zero (R195). -/
theorem Regs.setStackPair_f (p : StackPair) (w : Word) (g : Regs) :
    (g.setStackPair p w).f = g.f ∨ (g.setStackPair p w).f &&& 0x0F = 0 := by
  cases p
  · exact .inl rfl
  · exact .inl rfl
  · exact .inl rfl
  · exact .inr (low_of_high _)

variable {s}

theorem Moves.done {t : State} (h : Moves s t) (c : Nat) (hc : 4 ≤ c ∧ c ≤ 24) : Answer.Executes s (t.done c) := by
  intro u hu
  cases hu
  exact .moved c hc h

theorem Moves.setReg {t : State} (h : Moves s t) (r : Reg8) (v : Byte) : Moves s (t.setReg r v) :=
  .regs _ (.inl (Regs.set_f r v _)) h

theorem Moves.setPc {t : State} (h : Moves s t) (w : Word) : Moves s (t.setPc w) := .regs _ (.inl rfl) h

theorem Moves.setSp {t : State} (h : Moves s t) (w : Word) : Moves s (t.setSp w) := .regs _ (.inl rfl) h

theorem Moves.setFlags {t : State} (h : Moves s t) (f : Flags) : Moves s (t.setFlags f) := .regs _ (.inr f.pack_low) h

theorem Moves.setAFlags {t : State} (h : Moves s t) (r : Flagged) : Moves s (t.setAFlags r) :=
  .regs _ (.inr r.flags.pack_low) h

theorem Moves.push16 {t : State} (h : Moves s t) (w : Word) : Moves s (t.push16 w) :=
  .write _ _ (.setSp (.write _ _ (h.setSp _)) _)

theorem Moves.popped {t : State} (h : Moves s t) : Moves s t.popped := h.setSp _

theorem Moves.callTo {t : State} (h : Moves s t) (w : Word) : Moves s (t.callTo w) := (h.push16 _).setPc _

theorem Moves.returned {t : State} (h : Moves s t) : Moves s t.returned := h.popped.setPc _

theorem Moves.writeOpnd {t : State} (h : Moves s t) (o : Opnd) (v : Byte) : Moves s (t.writeOpnd o v) := by
  cases o with
  | reg r => exact h.setReg r v
  | indHl => exact .write _ _ h

/-- The costs of the operand forms are in range. -/
theorem opndCost_range {reg mem : Nat} (o : Opnd) (hr : 4 ≤ reg ∧ reg ≤ 24) (hm : 4 ≤ mem ∧ mem ≤ 24) :
    4 ≤ opndCost reg mem o ∧ opndCost reg mem o ≤ 24 := by cases o <;> assumption

variable (s)

theorem loadRegReg_executes (dst src : Reg8) : Answer.Executes s (loadRegReg dst src s) :=
  (Moves.refl.setReg _ _).done 4 (by decide)
theorem loadRegInd_executes (dst : Reg8) : Answer.Executes s (loadRegInd dst s) := (Moves.refl.setReg _ _).done 8 (by decide)
theorem storeIndReg_executes (r : Reg8) : Answer.Executes s (storeIndReg r s) :=
  (Moves.write _ _ .refl).done 8 (by decide)
theorem loadRegImm_executes (dst : Reg8) (n : Byte) : Answer.Executes s (loadRegImm dst n s) :=
  (Moves.refl.setReg _ _).done 8 (by decide)
theorem loadA_executes (a : Word) (c : Nat) (hc : 4 ≤ c ∧ c ≤ 24) : Answer.Executes s (loadA a c s) :=
  (Moves.refl.setReg _ _).done c hc
theorem storeA_executes (a : Word) (c : Nat) (hc : 4 ≤ c ∧ c ≤ 24) : Answer.Executes s (storeA a c s) :=
  (Moves.write _ _ .refl).done c hc
theorem loadAStep_executes (w : Word) : Answer.Executes s (loadAStep w s) :=
  (Moves.regs ((s.regs.set .a (s.memRead s.regs.hl)).setHl (s.regs.hl + w)) (.inl rfl) .refl).done 8 (by decide)
theorem storeAStep_executes (w : Word) : Answer.Executes s (storeAStep w s) :=
  (Moves.regs ((s.memWrite s.regs.hl (s.reg .a)).regs.setHl (s.regs.hl + w)) (.inl rfl)
    (.write s.regs.hl (s.reg .a) .refl)).done 8 (by decide)
theorem loadPairImm_executes (p : Pair) (w : Word) : Answer.Executes s (loadPairImm p w s) :=
  (Moves.regs _ (.inl (Regs.setPair_f p w _)) .refl).done 12 (by decide)
theorem pushPair_executes (p : StackPair) : Answer.Executes s (pushPair p s) := (Moves.refl.push16 _).done 16 (by decide)
theorem popPair_executes (p : StackPair) : Answer.Executes s (popPair p s) :=
  (Moves.regs _ (Regs.setStackPair_f p _ _) Moves.refl.popped).done 12 (by decide)
theorem aluOpnd_executes (op : AluOp) (o : Opnd) : Answer.Executes s (aluOpnd op o s) :=
  (Moves.refl.setAFlags _).done _ (opndCost_range o (by decide) (by decide))
theorem aluImm_executes (op : AluOp) (n : Byte) : Answer.Executes s (aluImm op n s) :=
  (Moves.refl.setAFlags _).done 8 (by decide)
theorem incOpnd_executes (o : Opnd) : Answer.Executes s (incOpnd o s) :=
  ((Moves.refl.writeOpnd o _).setFlags _).done _ (opndCost_range o (by decide) (by decide))
theorem decOpnd_executes (o : Opnd) : Answer.Executes s (decOpnd o s) :=
  ((Moves.refl.writeOpnd o _).setFlags _).done _ (opndCost_range o (by decide) (by decide))
theorem incPair_executes (p : Pair) : Answer.Executes s (incPair p s) :=
  (Moves.regs _ (.inl (Regs.setPair_f p _ _)) .refl).done 8 (by decide)
theorem decPair_executes (p : Pair) : Answer.Executes s (decPair p s) :=
  (Moves.regs _ (.inl (Regs.setPair_f p _ _)) .refl).done 8 (by decide)
theorem addHlPair_executes (p : Pair) : Answer.Executes s (addHlPair p s) :=
  (Moves.regs _ (.inr (Flags.pack_low _)) .refl).done 8 (by decide)
theorem rotA_executes (op : RotOp) : Answer.Executes s (rotA op s) := (Moves.refl.setAFlags _).done 4 (by decide)
theorem rotOpnd_executes (op : RotOp) (o : Opnd) : Answer.Executes s (rotOpnd op o s) :=
  ((Moves.refl.writeOpnd o _).setFlags _).done _ (opndCost_range o (by decide) (by decide))
theorem bitOpnd_executes (b : Octal) (o : Opnd) : Answer.Executes s (bitOpnd b o s) :=
  (Moves.refl.setFlags _).done _ (opndCost_range o (by decide) (by decide))
theorem resOpnd_executes (b : Octal) (o : Opnd) : Answer.Executes s (resOpnd b o s) :=
  (Moves.refl.writeOpnd o _).done _ (opndCost_range o (by decide) (by decide))
theorem setOpnd_executes (b : Octal) (o : Opnd) : Answer.Executes s (setOpnd b o s) :=
  (Moves.refl.writeOpnd o _).done _ (opndCost_range o (by decide) (by decide))
theorem jumpCond_executes (cc : Cond) (w : Word) : Answer.Executes s (jumpCond cc w s) := by
  unfold jumpCond
  split
  · exact (Moves.refl.setPc _).done 16 (by decide)
  · exact Moves.refl.done 12 (by decide)
theorem jumpRelCond_executes (cc : Cond) (e : Byte) : Answer.Executes s (jumpRelCond cc e s) := by
  unfold jumpRelCond
  split
  · exact (Moves.refl.setPc _).done 12 (by decide)
  · exact Moves.refl.done 8 (by decide)
theorem callCond_executes (cc : Cond) (w : Word) : Answer.Executes s (callCond cc w s) := by
  unfold callCond
  split
  · exact (Moves.refl.callTo _).done 24 (by decide)
  · exact Moves.refl.done 12 (by decide)
theorem retCond_executes (cc : Cond) : Answer.Executes s (retCond cc s) := by
  unfold retCond
  split
  · exact Moves.refl.returned.done 20 (by decide)
  · exact Moves.refl.done 8 (by decide)
theorem restart_executes (y : Octal) : Answer.Executes s (restart y s) := (Moves.refl.callTo _).done 16 (by decide)
theorem reti_executes : Answer.Executes s (s.returnFromInterrupt.done 16) := by
  intro t ht
  cases ht
  exact .master true 0 16 (by decide) (by decide) Moves.refl.returned
theorem master_executes (b : Bool) (d : Nat) (hd : d ≤ 2) :
    Answer.Executes s (State.done { s with ime := b, eiDelay := d } 4) := by
  intro t ht
  cases ht
  exact .master b d 4 hd (by decide) .refl
theorem halt_executes : Answer.Executes s (State.done { s with halted := true } 4) := by
  intro t ht
  cases ht
  exact .halted
theorem stop_executes : Answer.Executes s (State.done { s with stopped := true } 4) := by
  intro t ht
  cases ht
  exact .stopped
theorem fatalStop_executes (op : Byte) : Answer.Executes s (fatalStop op s) := by
  intro t ht
  cases ht
  exact .fatal op
theorem cbByte_executes (b : Byte) : Answer.Executes s (cbByte b s) := by
  unfold cbByte
  split
  · exact rotOpnd_executes s _ _
  · exact bitOpnd_executes s _ _
  · exact resOpnd_executes s _ _
  · exact setOpnd_executes s _ _

end Shared

/-- Whatever the instruction, a next state is one an executed instruction leaves. -/
theorem exec_executes (i : Instr) (s : State) : Answer.Executes s (exec i s) := by
  cases i with
  | nop => exact Moves.refl.done 4 (by decide)
  | ldBcD16 w => exact loadPairImm_executes s .bc w
  | ldIndBcA => exact storeA_executes s _ 8 (by decide)
  | incBc => exact incPair_executes s .bc
  | incB => exact incOpnd_executes s (.reg .b)
  | decB => exact decOpnd_executes s (.reg .b)
  | ldBD8 n => exact loadRegImm_executes s .b n
  | rlca => exact rotA_executes s .rlc
  | ldIndA16Sp w => exact (Moves.write _ _ (.write _ _ .refl)).done 20 (by decide)
  | addHlBc => exact addHlPair_executes s .bc
  | ldAIndBc => exact loadA_executes s _ 8 (by decide)
  | decBc => exact decPair_executes s .bc
  | incC => exact incOpnd_executes s (.reg .c)
  | decC => exact decOpnd_executes s (.reg .c)
  | ldCD8 n => exact loadRegImm_executes s .c n
  | rrca => exact rotA_executes s .rrc
  | stop ignored => exact stop_executes s
  | ldDeD16 w => exact loadPairImm_executes s .de w
  | ldIndDeA => exact storeA_executes s _ 8 (by decide)
  | incDe => exact incPair_executes s .de
  | incD => exact incOpnd_executes s (.reg .d)
  | decD => exact decOpnd_executes s (.reg .d)
  | ldDD8 n => exact loadRegImm_executes s .d n
  | rla => exact rotA_executes s .rl
  | jrE8 e => exact (Moves.refl.setPc _).done 12 (by decide)
  | addHlDe => exact addHlPair_executes s .de
  | ldAIndDe => exact loadA_executes s _ 8 (by decide)
  | decDe => exact decPair_executes s .de
  | incE => exact incOpnd_executes s (.reg .e)
  | decE => exact decOpnd_executes s (.reg .e)
  | ldED8 n => exact loadRegImm_executes s .e n
  | rra => exact rotA_executes s .rr
  | jrNzE8 e => exact jumpRelCond_executes s .nz e
  | ldHlD16 w => exact loadPairImm_executes s .hl w
  | ldIndHlIncA => exact storeAStep_executes s 1
  | incHl => exact incPair_executes s .hl
  | incH => exact incOpnd_executes s (.reg .h)
  | decH => exact decOpnd_executes s (.reg .h)
  | ldHD8 n => exact loadRegImm_executes s .h n
  | daa => exact (Moves.refl.setAFlags _).done 4 (by decide)
  | jrZE8 e => exact jumpRelCond_executes s .z e
  | addHlHl => exact addHlPair_executes s .hl
  | ldAIndHlInc => exact loadAStep_executes s 1
  | decHl => exact decPair_executes s .hl
  | incL => exact incOpnd_executes s (.reg .l)
  | decL => exact decOpnd_executes s (.reg .l)
  | ldLD8 n => exact loadRegImm_executes s .l n
  | cpl => exact (Moves.refl.setAFlags _).done 4 (by decide)
  | jrNcE8 e => exact jumpRelCond_executes s .nc e
  | ldSpD16 w => exact loadPairImm_executes s .sp w
  | ldIndHlDecA => exact storeAStep_executes s (-1)
  | incSp => exact incPair_executes s .sp
  | incIndHl => exact incOpnd_executes s .indHl
  | decIndHl => exact decOpnd_executes s .indHl
  | ldIndHlD8 n => exact (Moves.write _ _ .refl).done 12 (by decide)
  | scf => exact (Moves.refl.setFlags _).done 4 (by decide)
  | jrCE8 e => exact jumpRelCond_executes s .c e
  | addHlSp => exact addHlPair_executes s .sp
  | ldAIndHlDec => exact loadAStep_executes s (-1)
  | decSp => exact decPair_executes s .sp
  | incA => exact incOpnd_executes s (.reg .a)
  | decA => exact decOpnd_executes s (.reg .a)
  | ldAD8 n => exact loadRegImm_executes s .a n
  | ccf => exact (Moves.refl.setFlags _).done 4 (by decide)
  | ldBB => exact loadRegReg_executes s .b .b
  | ldBC => exact loadRegReg_executes s .b .c
  | ldBD => exact loadRegReg_executes s .b .d
  | ldBE => exact loadRegReg_executes s .b .e
  | ldBH => exact loadRegReg_executes s .b .h
  | ldBL => exact loadRegReg_executes s .b .l
  | ldBIndHl => exact loadRegInd_executes s .b
  | ldBA => exact loadRegReg_executes s .b .a
  | ldCB => exact loadRegReg_executes s .c .b
  | ldCC => exact loadRegReg_executes s .c .c
  | ldCD => exact loadRegReg_executes s .c .d
  | ldCE => exact loadRegReg_executes s .c .e
  | ldCH => exact loadRegReg_executes s .c .h
  | ldCL => exact loadRegReg_executes s .c .l
  | ldCIndHl => exact loadRegInd_executes s .c
  | ldCA => exact loadRegReg_executes s .c .a
  | ldDB => exact loadRegReg_executes s .d .b
  | ldDC => exact loadRegReg_executes s .d .c
  | ldDD => exact loadRegReg_executes s .d .d
  | ldDE => exact loadRegReg_executes s .d .e
  | ldDH => exact loadRegReg_executes s .d .h
  | ldDL => exact loadRegReg_executes s .d .l
  | ldDIndHl => exact loadRegInd_executes s .d
  | ldDA => exact loadRegReg_executes s .d .a
  | ldEB => exact loadRegReg_executes s .e .b
  | ldEC => exact loadRegReg_executes s .e .c
  | ldED => exact loadRegReg_executes s .e .d
  | ldEE => exact loadRegReg_executes s .e .e
  | ldEH => exact loadRegReg_executes s .e .h
  | ldEL => exact loadRegReg_executes s .e .l
  | ldEIndHl => exact loadRegInd_executes s .e
  | ldEA => exact loadRegReg_executes s .e .a
  | ldHB => exact loadRegReg_executes s .h .b
  | ldHC => exact loadRegReg_executes s .h .c
  | ldHD => exact loadRegReg_executes s .h .d
  | ldHE => exact loadRegReg_executes s .h .e
  | ldHH => exact loadRegReg_executes s .h .h
  | ldHL => exact loadRegReg_executes s .h .l
  | ldHIndHl => exact loadRegInd_executes s .h
  | ldHA => exact loadRegReg_executes s .h .a
  | ldLB => exact loadRegReg_executes s .l .b
  | ldLC => exact loadRegReg_executes s .l .c
  | ldLD => exact loadRegReg_executes s .l .d
  | ldLE => exact loadRegReg_executes s .l .e
  | ldLH => exact loadRegReg_executes s .l .h
  | ldLL => exact loadRegReg_executes s .l .l
  | ldLIndHl => exact loadRegInd_executes s .l
  | ldLA => exact loadRegReg_executes s .l .a
  | ldIndHlB => exact storeIndReg_executes s .b
  | ldIndHlC => exact storeIndReg_executes s .c
  | ldIndHlD => exact storeIndReg_executes s .d
  | ldIndHlE => exact storeIndReg_executes s .e
  | ldIndHlH => exact storeIndReg_executes s .h
  | ldIndHlL => exact storeIndReg_executes s .l
  | halt => exact halt_executes s
  | ldIndHlA => exact storeIndReg_executes s .a
  | ldAB => exact loadRegReg_executes s .a .b
  | ldAC => exact loadRegReg_executes s .a .c
  | ldAD => exact loadRegReg_executes s .a .d
  | ldAE => exact loadRegReg_executes s .a .e
  | ldAH => exact loadRegReg_executes s .a .h
  | ldAL => exact loadRegReg_executes s .a .l
  | ldAIndHl => exact loadRegInd_executes s .a
  | ldAA => exact loadRegReg_executes s .a .a
  | addAB => exact aluOpnd_executes s .add (.reg .b)
  | addAC => exact aluOpnd_executes s .add (.reg .c)
  | addAD => exact aluOpnd_executes s .add (.reg .d)
  | addAE => exact aluOpnd_executes s .add (.reg .e)
  | addAH => exact aluOpnd_executes s .add (.reg .h)
  | addAL => exact aluOpnd_executes s .add (.reg .l)
  | addAIndHl => exact aluOpnd_executes s .add .indHl
  | addAA => exact aluOpnd_executes s .add (.reg .a)
  | adcAB => exact aluOpnd_executes s .adc (.reg .b)
  | adcAC => exact aluOpnd_executes s .adc (.reg .c)
  | adcAD => exact aluOpnd_executes s .adc (.reg .d)
  | adcAE => exact aluOpnd_executes s .adc (.reg .e)
  | adcAH => exact aluOpnd_executes s .adc (.reg .h)
  | adcAL => exact aluOpnd_executes s .adc (.reg .l)
  | adcAIndHl => exact aluOpnd_executes s .adc .indHl
  | adcAA => exact aluOpnd_executes s .adc (.reg .a)
  | subB => exact aluOpnd_executes s .sub (.reg .b)
  | subC => exact aluOpnd_executes s .sub (.reg .c)
  | subD => exact aluOpnd_executes s .sub (.reg .d)
  | subE => exact aluOpnd_executes s .sub (.reg .e)
  | subH => exact aluOpnd_executes s .sub (.reg .h)
  | subL => exact aluOpnd_executes s .sub (.reg .l)
  | subIndHl => exact aluOpnd_executes s .sub .indHl
  | subA => exact aluOpnd_executes s .sub (.reg .a)
  | sbcAB => exact aluOpnd_executes s .sbc (.reg .b)
  | sbcAC => exact aluOpnd_executes s .sbc (.reg .c)
  | sbcAD => exact aluOpnd_executes s .sbc (.reg .d)
  | sbcAE => exact aluOpnd_executes s .sbc (.reg .e)
  | sbcAH => exact aluOpnd_executes s .sbc (.reg .h)
  | sbcAL => exact aluOpnd_executes s .sbc (.reg .l)
  | sbcAIndHl => exact aluOpnd_executes s .sbc .indHl
  | sbcAA => exact aluOpnd_executes s .sbc (.reg .a)
  | andB => exact aluOpnd_executes s .and (.reg .b)
  | andC => exact aluOpnd_executes s .and (.reg .c)
  | andD => exact aluOpnd_executes s .and (.reg .d)
  | andE => exact aluOpnd_executes s .and (.reg .e)
  | andH => exact aluOpnd_executes s .and (.reg .h)
  | andL => exact aluOpnd_executes s .and (.reg .l)
  | andIndHl => exact aluOpnd_executes s .and .indHl
  | andA => exact aluOpnd_executes s .and (.reg .a)
  | xorB => exact aluOpnd_executes s .xor (.reg .b)
  | xorC => exact aluOpnd_executes s .xor (.reg .c)
  | xorD => exact aluOpnd_executes s .xor (.reg .d)
  | xorE => exact aluOpnd_executes s .xor (.reg .e)
  | xorH => exact aluOpnd_executes s .xor (.reg .h)
  | xorL => exact aluOpnd_executes s .xor (.reg .l)
  | xorIndHl => exact aluOpnd_executes s .xor .indHl
  | xorA => exact aluOpnd_executes s .xor (.reg .a)
  | orB => exact aluOpnd_executes s .or (.reg .b)
  | orC => exact aluOpnd_executes s .or (.reg .c)
  | orD => exact aluOpnd_executes s .or (.reg .d)
  | orE => exact aluOpnd_executes s .or (.reg .e)
  | orH => exact aluOpnd_executes s .or (.reg .h)
  | orL => exact aluOpnd_executes s .or (.reg .l)
  | orIndHl => exact aluOpnd_executes s .or .indHl
  | orA => exact aluOpnd_executes s .or (.reg .a)
  | cpB => exact aluOpnd_executes s .cp (.reg .b)
  | cpC => exact aluOpnd_executes s .cp (.reg .c)
  | cpD => exact aluOpnd_executes s .cp (.reg .d)
  | cpE => exact aluOpnd_executes s .cp (.reg .e)
  | cpH => exact aluOpnd_executes s .cp (.reg .h)
  | cpL => exact aluOpnd_executes s .cp (.reg .l)
  | cpIndHl => exact aluOpnd_executes s .cp .indHl
  | cpA => exact aluOpnd_executes s .cp (.reg .a)
  | retNz => exact retCond_executes s .nz
  | popBc => exact popPair_executes s .bc
  | jpNzA16 w => exact jumpCond_executes s .nz w
  | jpA16 w => exact (Moves.refl.setPc _).done 16 (by decide)
  | callNzA16 w => exact callCond_executes s .nz w
  | pushBc => exact pushPair_executes s .bc
  | addAD8 n => exact aluImm_executes s .add n
  | rst00 => exact restart_executes s .o0
  | retZ => exact retCond_executes s .z
  | ret => exact Moves.refl.returned.done 16 (by decide)
  | jpZA16 w => exact jumpCond_executes s .z w
  | prefixCb op2 => exact cbByte_executes s op2
  | callZA16 w => exact callCond_executes s .z w
  | callA16 w => exact (Moves.refl.callTo _).done 24 (by decide)
  | adcAD8 n => exact aluImm_executes s .adc n
  | rst08 => exact restart_executes s .o1
  | retNc => exact retCond_executes s .nc
  | popDe => exact popPair_executes s .de
  | jpNcA16 w => exact jumpCond_executes s .nc w
  | illegalD3 => exact fatalStop_executes s 0xD3
  | callNcA16 w => exact callCond_executes s .nc w
  | pushDe => exact pushPair_executes s .de
  | subD8 n => exact aluImm_executes s .sub n
  | rst10 => exact restart_executes s .o2
  | retC => exact retCond_executes s .c
  | reti => exact reti_executes s
  | jpCA16 w => exact jumpCond_executes s .c w
  | illegalDB => exact fatalStop_executes s 0xDB
  | callCA16 w => exact callCond_executes s .c w
  | illegalDD => exact fatalStop_executes s 0xDD
  | sbcAD8 n => exact aluImm_executes s .sbc n
  | rst18 => exact restart_executes s .o3
  | ldhIndA8A n => exact storeA_executes s _ 12 (by decide)
  | popHl => exact popPair_executes s .hl
  | ldIndCA => exact storeA_executes s _ 8 (by decide)
  | illegalE3 => exact fatalStop_executes s 0xE3
  | illegalE4 => exact fatalStop_executes s 0xE4
  | pushHl => exact pushPair_executes s .hl
  | andD8 n => exact aluImm_executes s .and n
  | rst20 => exact restart_executes s .o4
  | addSpE8 e => exact (Moves.regs _ (.inr (Flags.pack_low _)) .refl).done 16 (by decide)
  | jpHl => exact (Moves.refl.setPc _).done 4 (by decide)
  | ldIndA16A w => exact storeA_executes s _ 16 (by decide)
  | illegalEB => exact fatalStop_executes s 0xEB
  | illegalEC => exact fatalStop_executes s 0xEC
  | illegalED => exact fatalStop_executes s 0xED
  | xorD8 n => exact aluImm_executes s .xor n
  | rst28 => exact restart_executes s .o5
  | ldhAIndA8 n => exact loadA_executes s _ 12 (by decide)
  | popAf => exact popPair_executes s .af
  | ldAIndC => exact loadA_executes s _ 8 (by decide)
  | di => exact master_executes s false 0 (by decide)
  | illegalF4 => exact fatalStop_executes s 0xF4
  | pushAf => exact pushPair_executes s .af
  | orD8 n => exact aluImm_executes s .or n
  | rst30 => exact restart_executes s .o6
  | ldHlSpE8 e => exact (Moves.regs _ (.inr (Flags.pack_low _)) .refl).done 12 (by decide)
  | ldSpHl => exact (Moves.refl.setSp _).done 8 (by decide)
  | ldAIndA16 w => exact loadA_executes s _ 16 (by decide)
  | ei => exact master_executes s s.ime 2 (by decide)
  | illegalFC => exact fatalStop_executes s 0xFC
  | illegalFD => exact fatalStop_executes s 0xFD
  | cpD8 n => exact aluImm_executes s .cp n
  | rst38 => exact restart_executes s .o7
  | cbRlcB => exact rotOpnd_executes s .rlc (.reg .b)
  | cbRlcC => exact rotOpnd_executes s .rlc (.reg .c)
  | cbRlcD => exact rotOpnd_executes s .rlc (.reg .d)
  | cbRlcE => exact rotOpnd_executes s .rlc (.reg .e)
  | cbRlcH => exact rotOpnd_executes s .rlc (.reg .h)
  | cbRlcL => exact rotOpnd_executes s .rlc (.reg .l)
  | cbRlcIndHl => exact rotOpnd_executes s .rlc .indHl
  | cbRlcA => exact rotOpnd_executes s .rlc (.reg .a)
  | cbRrcB => exact rotOpnd_executes s .rrc (.reg .b)
  | cbRrcC => exact rotOpnd_executes s .rrc (.reg .c)
  | cbRrcD => exact rotOpnd_executes s .rrc (.reg .d)
  | cbRrcE => exact rotOpnd_executes s .rrc (.reg .e)
  | cbRrcH => exact rotOpnd_executes s .rrc (.reg .h)
  | cbRrcL => exact rotOpnd_executes s .rrc (.reg .l)
  | cbRrcIndHl => exact rotOpnd_executes s .rrc .indHl
  | cbRrcA => exact rotOpnd_executes s .rrc (.reg .a)
  | cbRlB => exact rotOpnd_executes s .rl (.reg .b)
  | cbRlC => exact rotOpnd_executes s .rl (.reg .c)
  | cbRlD => exact rotOpnd_executes s .rl (.reg .d)
  | cbRlE => exact rotOpnd_executes s .rl (.reg .e)
  | cbRlH => exact rotOpnd_executes s .rl (.reg .h)
  | cbRlL => exact rotOpnd_executes s .rl (.reg .l)
  | cbRlIndHl => exact rotOpnd_executes s .rl .indHl
  | cbRlA => exact rotOpnd_executes s .rl (.reg .a)
  | cbRrB => exact rotOpnd_executes s .rr (.reg .b)
  | cbRrC => exact rotOpnd_executes s .rr (.reg .c)
  | cbRrD => exact rotOpnd_executes s .rr (.reg .d)
  | cbRrE => exact rotOpnd_executes s .rr (.reg .e)
  | cbRrH => exact rotOpnd_executes s .rr (.reg .h)
  | cbRrL => exact rotOpnd_executes s .rr (.reg .l)
  | cbRrIndHl => exact rotOpnd_executes s .rr .indHl
  | cbRrA => exact rotOpnd_executes s .rr (.reg .a)
  | cbSlaB => exact rotOpnd_executes s .sla (.reg .b)
  | cbSlaC => exact rotOpnd_executes s .sla (.reg .c)
  | cbSlaD => exact rotOpnd_executes s .sla (.reg .d)
  | cbSlaE => exact rotOpnd_executes s .sla (.reg .e)
  | cbSlaH => exact rotOpnd_executes s .sla (.reg .h)
  | cbSlaL => exact rotOpnd_executes s .sla (.reg .l)
  | cbSlaIndHl => exact rotOpnd_executes s .sla .indHl
  | cbSlaA => exact rotOpnd_executes s .sla (.reg .a)
  | cbSraB => exact rotOpnd_executes s .sra (.reg .b)
  | cbSraC => exact rotOpnd_executes s .sra (.reg .c)
  | cbSraD => exact rotOpnd_executes s .sra (.reg .d)
  | cbSraE => exact rotOpnd_executes s .sra (.reg .e)
  | cbSraH => exact rotOpnd_executes s .sra (.reg .h)
  | cbSraL => exact rotOpnd_executes s .sra (.reg .l)
  | cbSraIndHl => exact rotOpnd_executes s .sra .indHl
  | cbSraA => exact rotOpnd_executes s .sra (.reg .a)
  | cbSwapB => exact rotOpnd_executes s .swap (.reg .b)
  | cbSwapC => exact rotOpnd_executes s .swap (.reg .c)
  | cbSwapD => exact rotOpnd_executes s .swap (.reg .d)
  | cbSwapE => exact rotOpnd_executes s .swap (.reg .e)
  | cbSwapH => exact rotOpnd_executes s .swap (.reg .h)
  | cbSwapL => exact rotOpnd_executes s .swap (.reg .l)
  | cbSwapIndHl => exact rotOpnd_executes s .swap .indHl
  | cbSwapA => exact rotOpnd_executes s .swap (.reg .a)
  | cbSrlB => exact rotOpnd_executes s .srl (.reg .b)
  | cbSrlC => exact rotOpnd_executes s .srl (.reg .c)
  | cbSrlD => exact rotOpnd_executes s .srl (.reg .d)
  | cbSrlE => exact rotOpnd_executes s .srl (.reg .e)
  | cbSrlH => exact rotOpnd_executes s .srl (.reg .h)
  | cbSrlL => exact rotOpnd_executes s .srl (.reg .l)
  | cbSrlIndHl => exact rotOpnd_executes s .srl .indHl
  | cbSrlA => exact rotOpnd_executes s .srl (.reg .a)
  | cbBit0B => exact bitOpnd_executes s .o0 (.reg .b)
  | cbBit0C => exact bitOpnd_executes s .o0 (.reg .c)
  | cbBit0D => exact bitOpnd_executes s .o0 (.reg .d)
  | cbBit0E => exact bitOpnd_executes s .o0 (.reg .e)
  | cbBit0H => exact bitOpnd_executes s .o0 (.reg .h)
  | cbBit0L => exact bitOpnd_executes s .o0 (.reg .l)
  | cbBit0IndHl => exact bitOpnd_executes s .o0 .indHl
  | cbBit0A => exact bitOpnd_executes s .o0 (.reg .a)
  | cbBit1B => exact bitOpnd_executes s .o1 (.reg .b)
  | cbBit1C => exact bitOpnd_executes s .o1 (.reg .c)
  | cbBit1D => exact bitOpnd_executes s .o1 (.reg .d)
  | cbBit1E => exact bitOpnd_executes s .o1 (.reg .e)
  | cbBit1H => exact bitOpnd_executes s .o1 (.reg .h)
  | cbBit1L => exact bitOpnd_executes s .o1 (.reg .l)
  | cbBit1IndHl => exact bitOpnd_executes s .o1 .indHl
  | cbBit1A => exact bitOpnd_executes s .o1 (.reg .a)
  | cbBit2B => exact bitOpnd_executes s .o2 (.reg .b)
  | cbBit2C => exact bitOpnd_executes s .o2 (.reg .c)
  | cbBit2D => exact bitOpnd_executes s .o2 (.reg .d)
  | cbBit2E => exact bitOpnd_executes s .o2 (.reg .e)
  | cbBit2H => exact bitOpnd_executes s .o2 (.reg .h)
  | cbBit2L => exact bitOpnd_executes s .o2 (.reg .l)
  | cbBit2IndHl => exact bitOpnd_executes s .o2 .indHl
  | cbBit2A => exact bitOpnd_executes s .o2 (.reg .a)
  | cbBit3B => exact bitOpnd_executes s .o3 (.reg .b)
  | cbBit3C => exact bitOpnd_executes s .o3 (.reg .c)
  | cbBit3D => exact bitOpnd_executes s .o3 (.reg .d)
  | cbBit3E => exact bitOpnd_executes s .o3 (.reg .e)
  | cbBit3H => exact bitOpnd_executes s .o3 (.reg .h)
  | cbBit3L => exact bitOpnd_executes s .o3 (.reg .l)
  | cbBit3IndHl => exact bitOpnd_executes s .o3 .indHl
  | cbBit3A => exact bitOpnd_executes s .o3 (.reg .a)
  | cbBit4B => exact bitOpnd_executes s .o4 (.reg .b)
  | cbBit4C => exact bitOpnd_executes s .o4 (.reg .c)
  | cbBit4D => exact bitOpnd_executes s .o4 (.reg .d)
  | cbBit4E => exact bitOpnd_executes s .o4 (.reg .e)
  | cbBit4H => exact bitOpnd_executes s .o4 (.reg .h)
  | cbBit4L => exact bitOpnd_executes s .o4 (.reg .l)
  | cbBit4IndHl => exact bitOpnd_executes s .o4 .indHl
  | cbBit4A => exact bitOpnd_executes s .o4 (.reg .a)
  | cbBit5B => exact bitOpnd_executes s .o5 (.reg .b)
  | cbBit5C => exact bitOpnd_executes s .o5 (.reg .c)
  | cbBit5D => exact bitOpnd_executes s .o5 (.reg .d)
  | cbBit5E => exact bitOpnd_executes s .o5 (.reg .e)
  | cbBit5H => exact bitOpnd_executes s .o5 (.reg .h)
  | cbBit5L => exact bitOpnd_executes s .o5 (.reg .l)
  | cbBit5IndHl => exact bitOpnd_executes s .o5 .indHl
  | cbBit5A => exact bitOpnd_executes s .o5 (.reg .a)
  | cbBit6B => exact bitOpnd_executes s .o6 (.reg .b)
  | cbBit6C => exact bitOpnd_executes s .o6 (.reg .c)
  | cbBit6D => exact bitOpnd_executes s .o6 (.reg .d)
  | cbBit6E => exact bitOpnd_executes s .o6 (.reg .e)
  | cbBit6H => exact bitOpnd_executes s .o6 (.reg .h)
  | cbBit6L => exact bitOpnd_executes s .o6 (.reg .l)
  | cbBit6IndHl => exact bitOpnd_executes s .o6 .indHl
  | cbBit6A => exact bitOpnd_executes s .o6 (.reg .a)
  | cbBit7B => exact bitOpnd_executes s .o7 (.reg .b)
  | cbBit7C => exact bitOpnd_executes s .o7 (.reg .c)
  | cbBit7D => exact bitOpnd_executes s .o7 (.reg .d)
  | cbBit7E => exact bitOpnd_executes s .o7 (.reg .e)
  | cbBit7H => exact bitOpnd_executes s .o7 (.reg .h)
  | cbBit7L => exact bitOpnd_executes s .o7 (.reg .l)
  | cbBit7IndHl => exact bitOpnd_executes s .o7 .indHl
  | cbBit7A => exact bitOpnd_executes s .o7 (.reg .a)
  | cbRes0B => exact resOpnd_executes s .o0 (.reg .b)
  | cbRes0C => exact resOpnd_executes s .o0 (.reg .c)
  | cbRes0D => exact resOpnd_executes s .o0 (.reg .d)
  | cbRes0E => exact resOpnd_executes s .o0 (.reg .e)
  | cbRes0H => exact resOpnd_executes s .o0 (.reg .h)
  | cbRes0L => exact resOpnd_executes s .o0 (.reg .l)
  | cbRes0IndHl => exact resOpnd_executes s .o0 .indHl
  | cbRes0A => exact resOpnd_executes s .o0 (.reg .a)
  | cbRes1B => exact resOpnd_executes s .o1 (.reg .b)
  | cbRes1C => exact resOpnd_executes s .o1 (.reg .c)
  | cbRes1D => exact resOpnd_executes s .o1 (.reg .d)
  | cbRes1E => exact resOpnd_executes s .o1 (.reg .e)
  | cbRes1H => exact resOpnd_executes s .o1 (.reg .h)
  | cbRes1L => exact resOpnd_executes s .o1 (.reg .l)
  | cbRes1IndHl => exact resOpnd_executes s .o1 .indHl
  | cbRes1A => exact resOpnd_executes s .o1 (.reg .a)
  | cbRes2B => exact resOpnd_executes s .o2 (.reg .b)
  | cbRes2C => exact resOpnd_executes s .o2 (.reg .c)
  | cbRes2D => exact resOpnd_executes s .o2 (.reg .d)
  | cbRes2E => exact resOpnd_executes s .o2 (.reg .e)
  | cbRes2H => exact resOpnd_executes s .o2 (.reg .h)
  | cbRes2L => exact resOpnd_executes s .o2 (.reg .l)
  | cbRes2IndHl => exact resOpnd_executes s .o2 .indHl
  | cbRes2A => exact resOpnd_executes s .o2 (.reg .a)
  | cbRes3B => exact resOpnd_executes s .o3 (.reg .b)
  | cbRes3C => exact resOpnd_executes s .o3 (.reg .c)
  | cbRes3D => exact resOpnd_executes s .o3 (.reg .d)
  | cbRes3E => exact resOpnd_executes s .o3 (.reg .e)
  | cbRes3H => exact resOpnd_executes s .o3 (.reg .h)
  | cbRes3L => exact resOpnd_executes s .o3 (.reg .l)
  | cbRes3IndHl => exact resOpnd_executes s .o3 .indHl
  | cbRes3A => exact resOpnd_executes s .o3 (.reg .a)
  | cbRes4B => exact resOpnd_executes s .o4 (.reg .b)
  | cbRes4C => exact resOpnd_executes s .o4 (.reg .c)
  | cbRes4D => exact resOpnd_executes s .o4 (.reg .d)
  | cbRes4E => exact resOpnd_executes s .o4 (.reg .e)
  | cbRes4H => exact resOpnd_executes s .o4 (.reg .h)
  | cbRes4L => exact resOpnd_executes s .o4 (.reg .l)
  | cbRes4IndHl => exact resOpnd_executes s .o4 .indHl
  | cbRes4A => exact resOpnd_executes s .o4 (.reg .a)
  | cbRes5B => exact resOpnd_executes s .o5 (.reg .b)
  | cbRes5C => exact resOpnd_executes s .o5 (.reg .c)
  | cbRes5D => exact resOpnd_executes s .o5 (.reg .d)
  | cbRes5E => exact resOpnd_executes s .o5 (.reg .e)
  | cbRes5H => exact resOpnd_executes s .o5 (.reg .h)
  | cbRes5L => exact resOpnd_executes s .o5 (.reg .l)
  | cbRes5IndHl => exact resOpnd_executes s .o5 .indHl
  | cbRes5A => exact resOpnd_executes s .o5 (.reg .a)
  | cbRes6B => exact resOpnd_executes s .o6 (.reg .b)
  | cbRes6C => exact resOpnd_executes s .o6 (.reg .c)
  | cbRes6D => exact resOpnd_executes s .o6 (.reg .d)
  | cbRes6E => exact resOpnd_executes s .o6 (.reg .e)
  | cbRes6H => exact resOpnd_executes s .o6 (.reg .h)
  | cbRes6L => exact resOpnd_executes s .o6 (.reg .l)
  | cbRes6IndHl => exact resOpnd_executes s .o6 .indHl
  | cbRes6A => exact resOpnd_executes s .o6 (.reg .a)
  | cbRes7B => exact resOpnd_executes s .o7 (.reg .b)
  | cbRes7C => exact resOpnd_executes s .o7 (.reg .c)
  | cbRes7D => exact resOpnd_executes s .o7 (.reg .d)
  | cbRes7E => exact resOpnd_executes s .o7 (.reg .e)
  | cbRes7H => exact resOpnd_executes s .o7 (.reg .h)
  | cbRes7L => exact resOpnd_executes s .o7 (.reg .l)
  | cbRes7IndHl => exact resOpnd_executes s .o7 .indHl
  | cbRes7A => exact resOpnd_executes s .o7 (.reg .a)
  | cbSet0B => exact setOpnd_executes s .o0 (.reg .b)
  | cbSet0C => exact setOpnd_executes s .o0 (.reg .c)
  | cbSet0D => exact setOpnd_executes s .o0 (.reg .d)
  | cbSet0E => exact setOpnd_executes s .o0 (.reg .e)
  | cbSet0H => exact setOpnd_executes s .o0 (.reg .h)
  | cbSet0L => exact setOpnd_executes s .o0 (.reg .l)
  | cbSet0IndHl => exact setOpnd_executes s .o0 .indHl
  | cbSet0A => exact setOpnd_executes s .o0 (.reg .a)
  | cbSet1B => exact setOpnd_executes s .o1 (.reg .b)
  | cbSet1C => exact setOpnd_executes s .o1 (.reg .c)
  | cbSet1D => exact setOpnd_executes s .o1 (.reg .d)
  | cbSet1E => exact setOpnd_executes s .o1 (.reg .e)
  | cbSet1H => exact setOpnd_executes s .o1 (.reg .h)
  | cbSet1L => exact setOpnd_executes s .o1 (.reg .l)
  | cbSet1IndHl => exact setOpnd_executes s .o1 .indHl
  | cbSet1A => exact setOpnd_executes s .o1 (.reg .a)
  | cbSet2B => exact setOpnd_executes s .o2 (.reg .b)
  | cbSet2C => exact setOpnd_executes s .o2 (.reg .c)
  | cbSet2D => exact setOpnd_executes s .o2 (.reg .d)
  | cbSet2E => exact setOpnd_executes s .o2 (.reg .e)
  | cbSet2H => exact setOpnd_executes s .o2 (.reg .h)
  | cbSet2L => exact setOpnd_executes s .o2 (.reg .l)
  | cbSet2IndHl => exact setOpnd_executes s .o2 .indHl
  | cbSet2A => exact setOpnd_executes s .o2 (.reg .a)
  | cbSet3B => exact setOpnd_executes s .o3 (.reg .b)
  | cbSet3C => exact setOpnd_executes s .o3 (.reg .c)
  | cbSet3D => exact setOpnd_executes s .o3 (.reg .d)
  | cbSet3E => exact setOpnd_executes s .o3 (.reg .e)
  | cbSet3H => exact setOpnd_executes s .o3 (.reg .h)
  | cbSet3L => exact setOpnd_executes s .o3 (.reg .l)
  | cbSet3IndHl => exact setOpnd_executes s .o3 .indHl
  | cbSet3A => exact setOpnd_executes s .o3 (.reg .a)
  | cbSet4B => exact setOpnd_executes s .o4 (.reg .b)
  | cbSet4C => exact setOpnd_executes s .o4 (.reg .c)
  | cbSet4D => exact setOpnd_executes s .o4 (.reg .d)
  | cbSet4E => exact setOpnd_executes s .o4 (.reg .e)
  | cbSet4H => exact setOpnd_executes s .o4 (.reg .h)
  | cbSet4L => exact setOpnd_executes s .o4 (.reg .l)
  | cbSet4IndHl => exact setOpnd_executes s .o4 .indHl
  | cbSet4A => exact setOpnd_executes s .o4 (.reg .a)
  | cbSet5B => exact setOpnd_executes s .o5 (.reg .b)
  | cbSet5C => exact setOpnd_executes s .o5 (.reg .c)
  | cbSet5D => exact setOpnd_executes s .o5 (.reg .d)
  | cbSet5E => exact setOpnd_executes s .o5 (.reg .e)
  | cbSet5H => exact setOpnd_executes s .o5 (.reg .h)
  | cbSet5L => exact setOpnd_executes s .o5 (.reg .l)
  | cbSet5IndHl => exact setOpnd_executes s .o5 .indHl
  | cbSet5A => exact setOpnd_executes s .o5 (.reg .a)
  | cbSet6B => exact setOpnd_executes s .o6 (.reg .b)
  | cbSet6C => exact setOpnd_executes s .o6 (.reg .c)
  | cbSet6D => exact setOpnd_executes s .o6 (.reg .d)
  | cbSet6E => exact setOpnd_executes s .o6 (.reg .e)
  | cbSet6H => exact setOpnd_executes s .o6 (.reg .h)
  | cbSet6L => exact setOpnd_executes s .o6 (.reg .l)
  | cbSet6IndHl => exact setOpnd_executes s .o6 .indHl
  | cbSet6A => exact setOpnd_executes s .o6 (.reg .a)
  | cbSet7B => exact setOpnd_executes s .o7 (.reg .b)
  | cbSet7C => exact setOpnd_executes s .o7 (.reg .c)
  | cbSet7D => exact setOpnd_executes s .o7 (.reg .d)
  | cbSet7E => exact setOpnd_executes s .o7 (.reg .e)
  | cbSet7H => exact setOpnd_executes s .o7 (.reg .h)
  | cbSet7L => exact setOpnd_executes s .o7 (.reg .l)
  | cbSet7IndHl => exact setOpnd_executes s .o7 .indHl
  | cbSet7A => exact setOpnd_executes s .o7 (.reg .a)

/-- The cases of an executed instruction. -/
theorem exec_next {i : Instr} {s t : State} (h : exec i s = .next t) : Executed s t := exec_executes i s t h

end Sys2Proof.Machine
end

