-- ==== Sys2Proof/Laws/Host.lean ====
section
/-! SUPPORT. The run of a host's schedule, one operation at a time. -/

namespace Sys2Proof.Machine

variable (s : State) (reply : HostReply) (r : RunResult)

@[simp] theorem RunResult.endAt_state : (RunResult.endAt s).state = s := rfl
@[simp] theorem RunResult.endAt_replies : (RunResult.endAt s).replies = [] := rfl
@[simp] theorem RunResult.endAt_samples : (RunResult.endAt s).samples = [] := rfl
@[simp] theorem RunResult.after_state : (r.after reply).state = r.state := rfl
@[simp] theorem RunResult.after_ending : (r.after reply).ending = r.ending := rfl
@[simp] theorem RunResult.after_replies : (r.after reply).replies = reply :: r.replies := rfl
@[simp] theorem RunResult.after_samples : (r.after reply).samples = reply.sampleList ++ r.samples := rfl

/-- A run that is over in a state ends as the fatal record says (R577). -/
theorem RunResult.endAt_ending :
    (RunResult.endAt s).ending = match s.fatal with | some f => .fatal f | none => .hostStopped := rfl

/-- An empty schedule ends where it starts. -/
@[simp] theorem drive_nil : drive [] s = .endAt s := rfl

/-- A run that starts in the fatal state is over (R577). -/
theorem drive_fatal (ops : List HostOp) (h : s.fatal.isSome = true) : drive ops s = .endAt s := by
  cases ops with
  | nil => rfl
  | cons op rest => simp [drive, h]

/-- From a state that is not fatal, a run takes its first operation and goes on from there. -/
theorem drive_cons (op : HostOp) (rest : List HostOp) (t : State) (h : s.fatal = none) (ht : op.apply s = .next t) :
    drive (op :: rest) s = (drive rest t).after (op.reply s) := by
  simp [drive, h, ht]

end Sys2Proof.Machine
end

