-- ==== Sys2Proof/Laws/PerInstr.lean ====
section
/-! SUPPORT. Facts made of each instruction as syntax, one lemma per constructor. The family `EncodedLength`: an
instruction is encoded in as many bytes as its first byte says (R141, R153). -/

namespace Sys2Proof.Laws.EncodedLength

/-- The encoding starts with a byte whose length by R153 is the length of the encoding. -/
def Statement (i : Instr) : Prop := ∃ b rest, encode i = b :: rest ∧ rest.length + 1 = opcodeLength b

theorem nop : Statement (.nop) := ⟨_, _, rfl, rfl⟩
theorem ldBcD16 (w : Word) : Statement (.ldBcD16 w) := ⟨_, _, rfl, rfl⟩
theorem ldIndBcA : Statement (.ldIndBcA) := ⟨_, _, rfl, rfl⟩
theorem incBc : Statement (.incBc) := ⟨_, _, rfl, rfl⟩
theorem incB : Statement (.incB) := ⟨_, _, rfl, rfl⟩
theorem decB : Statement (.decB) := ⟨_, _, rfl, rfl⟩
theorem ldBD8 (n : Byte) : Statement (.ldBD8 n) := ⟨_, _, rfl, rfl⟩
theorem rlca : Statement (.rlca) := ⟨_, _, rfl, rfl⟩
theorem ldIndA16Sp (w : Word) : Statement (.ldIndA16Sp w) := ⟨_, _, rfl, rfl⟩
theorem addHlBc : Statement (.addHlBc) := ⟨_, _, rfl, rfl⟩
theorem ldAIndBc : Statement (.ldAIndBc) := ⟨_, _, rfl, rfl⟩
theorem decBc : Statement (.decBc) := ⟨_, _, rfl, rfl⟩
theorem incC : Statement (.incC) := ⟨_, _, rfl, rfl⟩
theorem decC : Statement (.decC) := ⟨_, _, rfl, rfl⟩
theorem ldCD8 (n : Byte) : Statement (.ldCD8 n) := ⟨_, _, rfl, rfl⟩
theorem rrca : Statement (.rrca) := ⟨_, _, rfl, rfl⟩
theorem stop (ignored : Byte) : Statement (.stop ignored) := ⟨_, _, rfl, rfl⟩
theorem ldDeD16 (w : Word) : Statement (.ldDeD16 w) := ⟨_, _, rfl, rfl⟩
theorem ldIndDeA : Statement (.ldIndDeA) := ⟨_, _, rfl, rfl⟩
theorem incDe : Statement (.incDe) := ⟨_, _, rfl, rfl⟩
theorem incD : Statement (.incD) := ⟨_, _, rfl, rfl⟩
theorem decD : Statement (.decD) := ⟨_, _, rfl, rfl⟩
theorem ldDD8 (n : Byte) : Statement (.ldDD8 n) := ⟨_, _, rfl, rfl⟩
theorem rla : Statement (.rla) := ⟨_, _, rfl, rfl⟩
theorem jrE8 (e : Byte) : Statement (.jrE8 e) := ⟨_, _, rfl, rfl⟩
theorem addHlDe : Statement (.addHlDe) := ⟨_, _, rfl, rfl⟩
theorem ldAIndDe : Statement (.ldAIndDe) := ⟨_, _, rfl, rfl⟩
theorem decDe : Statement (.decDe) := ⟨_, _, rfl, rfl⟩
theorem incE : Statement (.incE) := ⟨_, _, rfl, rfl⟩
theorem decE : Statement (.decE) := ⟨_, _, rfl, rfl⟩
theorem ldED8 (n : Byte) : Statement (.ldED8 n) := ⟨_, _, rfl, rfl⟩
theorem rra : Statement (.rra) := ⟨_, _, rfl, rfl⟩
theorem jrNzE8 (e : Byte) : Statement (.jrNzE8 e) := ⟨_, _, rfl, rfl⟩
theorem ldHlD16 (w : Word) : Statement (.ldHlD16 w) := ⟨_, _, rfl, rfl⟩
theorem ldIndHlIncA : Statement (.ldIndHlIncA) := ⟨_, _, rfl, rfl⟩
theorem incHl : Statement (.incHl) := ⟨_, _, rfl, rfl⟩
theorem incH : Statement (.incH) := ⟨_, _, rfl, rfl⟩
theorem decH : Statement (.decH) := ⟨_, _, rfl, rfl⟩
theorem ldHD8 (n : Byte) : Statement (.ldHD8 n) := ⟨_, _, rfl, rfl⟩
theorem daa : Statement (.daa) := ⟨_, _, rfl, rfl⟩
theorem jrZE8 (e : Byte) : Statement (.jrZE8 e) := ⟨_, _, rfl, rfl⟩
theorem addHlHl : Statement (.addHlHl) := ⟨_, _, rfl, rfl⟩
theorem ldAIndHlInc : Statement (.ldAIndHlInc) := ⟨_, _, rfl, rfl⟩
theorem decHl : Statement (.decHl) := ⟨_, _, rfl, rfl⟩
theorem incL : Statement (.incL) := ⟨_, _, rfl, rfl⟩
theorem decL : Statement (.decL) := ⟨_, _, rfl, rfl⟩
theorem ldLD8 (n : Byte) : Statement (.ldLD8 n) := ⟨_, _, rfl, rfl⟩
theorem cpl : Statement (.cpl) := ⟨_, _, rfl, rfl⟩
theorem jrNcE8 (e : Byte) : Statement (.jrNcE8 e) := ⟨_, _, rfl, rfl⟩
theorem ldSpD16 (w : Word) : Statement (.ldSpD16 w) := ⟨_, _, rfl, rfl⟩
theorem ldIndHlDecA : Statement (.ldIndHlDecA) := ⟨_, _, rfl, rfl⟩
theorem incSp : Statement (.incSp) := ⟨_, _, rfl, rfl⟩
theorem incIndHl : Statement (.incIndHl) := ⟨_, _, rfl, rfl⟩
theorem decIndHl : Statement (.decIndHl) := ⟨_, _, rfl, rfl⟩
theorem ldIndHlD8 (n : Byte) : Statement (.ldIndHlD8 n) := ⟨_, _, rfl, rfl⟩
theorem scf : Statement (.scf) := ⟨_, _, rfl, rfl⟩
theorem jrCE8 (e : Byte) : Statement (.jrCE8 e) := ⟨_, _, rfl, rfl⟩
theorem addHlSp : Statement (.addHlSp) := ⟨_, _, rfl, rfl⟩
theorem ldAIndHlDec : Statement (.ldAIndHlDec) := ⟨_, _, rfl, rfl⟩
theorem decSp : Statement (.decSp) := ⟨_, _, rfl, rfl⟩
theorem incA : Statement (.incA) := ⟨_, _, rfl, rfl⟩
theorem decA : Statement (.decA) := ⟨_, _, rfl, rfl⟩
theorem ldAD8 (n : Byte) : Statement (.ldAD8 n) := ⟨_, _, rfl, rfl⟩
theorem ccf : Statement (.ccf) := ⟨_, _, rfl, rfl⟩
theorem ldBB : Statement (.ldBB) := ⟨_, _, rfl, rfl⟩
theorem ldBC : Statement (.ldBC) := ⟨_, _, rfl, rfl⟩
theorem ldBD : Statement (.ldBD) := ⟨_, _, rfl, rfl⟩
theorem ldBE : Statement (.ldBE) := ⟨_, _, rfl, rfl⟩
theorem ldBH : Statement (.ldBH) := ⟨_, _, rfl, rfl⟩
theorem ldBL : Statement (.ldBL) := ⟨_, _, rfl, rfl⟩
theorem ldBIndHl : Statement (.ldBIndHl) := ⟨_, _, rfl, rfl⟩
theorem ldBA : Statement (.ldBA) := ⟨_, _, rfl, rfl⟩
theorem ldCB : Statement (.ldCB) := ⟨_, _, rfl, rfl⟩
theorem ldCC : Statement (.ldCC) := ⟨_, _, rfl, rfl⟩
theorem ldCD : Statement (.ldCD) := ⟨_, _, rfl, rfl⟩
theorem ldCE : Statement (.ldCE) := ⟨_, _, rfl, rfl⟩
theorem ldCH : Statement (.ldCH) := ⟨_, _, rfl, rfl⟩
theorem ldCL : Statement (.ldCL) := ⟨_, _, rfl, rfl⟩
theorem ldCIndHl : Statement (.ldCIndHl) := ⟨_, _, rfl, rfl⟩
theorem ldCA : Statement (.ldCA) := ⟨_, _, rfl, rfl⟩
theorem ldDB : Statement (.ldDB) := ⟨_, _, rfl, rfl⟩
theorem ldDC : Statement (.ldDC) := ⟨_, _, rfl, rfl⟩
theorem ldDD : Statement (.ldDD) := ⟨_, _, rfl, rfl⟩
theorem ldDE : Statement (.ldDE) := ⟨_, _, rfl, rfl⟩
theorem ldDH : Statement (.ldDH) := ⟨_, _, rfl, rfl⟩
theorem ldDL : Statement (.ldDL) := ⟨_, _, rfl, rfl⟩
theorem ldDIndHl : Statement (.ldDIndHl) := ⟨_, _, rfl, rfl⟩
theorem ldDA : Statement (.ldDA) := ⟨_, _, rfl, rfl⟩
theorem ldEB : Statement (.ldEB) := ⟨_, _, rfl, rfl⟩
theorem ldEC : Statement (.ldEC) := ⟨_, _, rfl, rfl⟩
theorem ldED : Statement (.ldED) := ⟨_, _, rfl, rfl⟩
theorem ldEE : Statement (.ldEE) := ⟨_, _, rfl, rfl⟩
theorem ldEH : Statement (.ldEH) := ⟨_, _, rfl, rfl⟩
theorem ldEL : Statement (.ldEL) := ⟨_, _, rfl, rfl⟩
theorem ldEIndHl : Statement (.ldEIndHl) := ⟨_, _, rfl, rfl⟩
theorem ldEA : Statement (.ldEA) := ⟨_, _, rfl, rfl⟩
theorem ldHB : Statement (.ldHB) := ⟨_, _, rfl, rfl⟩
theorem ldHC : Statement (.ldHC) := ⟨_, _, rfl, rfl⟩
theorem ldHD : Statement (.ldHD) := ⟨_, _, rfl, rfl⟩
theorem ldHE : Statement (.ldHE) := ⟨_, _, rfl, rfl⟩
theorem ldHH : Statement (.ldHH) := ⟨_, _, rfl, rfl⟩
theorem ldHL : Statement (.ldHL) := ⟨_, _, rfl, rfl⟩
theorem ldHIndHl : Statement (.ldHIndHl) := ⟨_, _, rfl, rfl⟩
theorem ldHA : Statement (.ldHA) := ⟨_, _, rfl, rfl⟩
theorem ldLB : Statement (.ldLB) := ⟨_, _, rfl, rfl⟩
theorem ldLC : Statement (.ldLC) := ⟨_, _, rfl, rfl⟩
theorem ldLD : Statement (.ldLD) := ⟨_, _, rfl, rfl⟩
theorem ldLE : Statement (.ldLE) := ⟨_, _, rfl, rfl⟩
theorem ldLH : Statement (.ldLH) := ⟨_, _, rfl, rfl⟩
theorem ldLL : Statement (.ldLL) := ⟨_, _, rfl, rfl⟩
theorem ldLIndHl : Statement (.ldLIndHl) := ⟨_, _, rfl, rfl⟩
theorem ldLA : Statement (.ldLA) := ⟨_, _, rfl, rfl⟩
theorem ldIndHlB : Statement (.ldIndHlB) := ⟨_, _, rfl, rfl⟩
theorem ldIndHlC : Statement (.ldIndHlC) := ⟨_, _, rfl, rfl⟩
theorem ldIndHlD : Statement (.ldIndHlD) := ⟨_, _, rfl, rfl⟩
theorem ldIndHlE : Statement (.ldIndHlE) := ⟨_, _, rfl, rfl⟩
theorem ldIndHlH : Statement (.ldIndHlH) := ⟨_, _, rfl, rfl⟩
theorem ldIndHlL : Statement (.ldIndHlL) := ⟨_, _, rfl, rfl⟩
theorem halt : Statement (.halt) := ⟨_, _, rfl, rfl⟩
theorem ldIndHlA : Statement (.ldIndHlA) := ⟨_, _, rfl, rfl⟩
theorem ldAB : Statement (.ldAB) := ⟨_, _, rfl, rfl⟩
theorem ldAC : Statement (.ldAC) := ⟨_, _, rfl, rfl⟩
theorem ldAD : Statement (.ldAD) := ⟨_, _, rfl, rfl⟩
theorem ldAE : Statement (.ldAE) := ⟨_, _, rfl, rfl⟩
theorem ldAH : Statement (.ldAH) := ⟨_, _, rfl, rfl⟩
theorem ldAL : Statement (.ldAL) := ⟨_, _, rfl, rfl⟩
theorem ldAIndHl : Statement (.ldAIndHl) := ⟨_, _, rfl, rfl⟩
theorem ldAA : Statement (.ldAA) := ⟨_, _, rfl, rfl⟩
theorem addAB : Statement (.addAB) := ⟨_, _, rfl, rfl⟩
theorem addAC : Statement (.addAC) := ⟨_, _, rfl, rfl⟩
theorem addAD : Statement (.addAD) := ⟨_, _, rfl, rfl⟩
theorem addAE : Statement (.addAE) := ⟨_, _, rfl, rfl⟩
theorem addAH : Statement (.addAH) := ⟨_, _, rfl, rfl⟩
theorem addAL : Statement (.addAL) := ⟨_, _, rfl, rfl⟩
theorem addAIndHl : Statement (.addAIndHl) := ⟨_, _, rfl, rfl⟩
theorem addAA : Statement (.addAA) := ⟨_, _, rfl, rfl⟩
theorem adcAB : Statement (.adcAB) := ⟨_, _, rfl, rfl⟩
theorem adcAC : Statement (.adcAC) := ⟨_, _, rfl, rfl⟩
theorem adcAD : Statement (.adcAD) := ⟨_, _, rfl, rfl⟩
theorem adcAE : Statement (.adcAE) := ⟨_, _, rfl, rfl⟩
theorem adcAH : Statement (.adcAH) := ⟨_, _, rfl, rfl⟩
theorem adcAL : Statement (.adcAL) := ⟨_, _, rfl, rfl⟩
theorem adcAIndHl : Statement (.adcAIndHl) := ⟨_, _, rfl, rfl⟩
theorem adcAA : Statement (.adcAA) := ⟨_, _, rfl, rfl⟩
theorem subB : Statement (.subB) := ⟨_, _, rfl, rfl⟩
theorem subC : Statement (.subC) := ⟨_, _, rfl, rfl⟩
theorem subD : Statement (.subD) := ⟨_, _, rfl, rfl⟩
theorem subE : Statement (.subE) := ⟨_, _, rfl, rfl⟩
theorem subH : Statement (.subH) := ⟨_, _, rfl, rfl⟩
theorem subL : Statement (.subL) := ⟨_, _, rfl, rfl⟩
theorem subIndHl : Statement (.subIndHl) := ⟨_, _, rfl, rfl⟩
theorem subA : Statement (.subA) := ⟨_, _, rfl, rfl⟩
theorem sbcAB : Statement (.sbcAB) := ⟨_, _, rfl, rfl⟩
theorem sbcAC : Statement (.sbcAC) := ⟨_, _, rfl, rfl⟩
theorem sbcAD : Statement (.sbcAD) := ⟨_, _, rfl, rfl⟩
theorem sbcAE : Statement (.sbcAE) := ⟨_, _, rfl, rfl⟩
theorem sbcAH : Statement (.sbcAH) := ⟨_, _, rfl, rfl⟩
theorem sbcAL : Statement (.sbcAL) := ⟨_, _, rfl, rfl⟩
theorem sbcAIndHl : Statement (.sbcAIndHl) := ⟨_, _, rfl, rfl⟩
theorem sbcAA : Statement (.sbcAA) := ⟨_, _, rfl, rfl⟩
theorem andB : Statement (.andB) := ⟨_, _, rfl, rfl⟩
theorem andC : Statement (.andC) := ⟨_, _, rfl, rfl⟩
theorem andD : Statement (.andD) := ⟨_, _, rfl, rfl⟩
theorem andE : Statement (.andE) := ⟨_, _, rfl, rfl⟩
theorem andH : Statement (.andH) := ⟨_, _, rfl, rfl⟩
theorem andL : Statement (.andL) := ⟨_, _, rfl, rfl⟩
theorem andIndHl : Statement (.andIndHl) := ⟨_, _, rfl, rfl⟩
theorem andA : Statement (.andA) := ⟨_, _, rfl, rfl⟩
theorem xorB : Statement (.xorB) := ⟨_, _, rfl, rfl⟩
theorem xorC : Statement (.xorC) := ⟨_, _, rfl, rfl⟩
theorem xorD : Statement (.xorD) := ⟨_, _, rfl, rfl⟩
theorem xorE : Statement (.xorE) := ⟨_, _, rfl, rfl⟩
theorem xorH : Statement (.xorH) := ⟨_, _, rfl, rfl⟩
theorem xorL : Statement (.xorL) := ⟨_, _, rfl, rfl⟩
theorem xorIndHl : Statement (.xorIndHl) := ⟨_, _, rfl, rfl⟩
theorem xorA : Statement (.xorA) := ⟨_, _, rfl, rfl⟩
theorem orB : Statement (.orB) := ⟨_, _, rfl, rfl⟩
theorem orC : Statement (.orC) := ⟨_, _, rfl, rfl⟩
theorem orD : Statement (.orD) := ⟨_, _, rfl, rfl⟩
theorem orE : Statement (.orE) := ⟨_, _, rfl, rfl⟩
theorem orH : Statement (.orH) := ⟨_, _, rfl, rfl⟩
theorem orL : Statement (.orL) := ⟨_, _, rfl, rfl⟩
theorem orIndHl : Statement (.orIndHl) := ⟨_, _, rfl, rfl⟩
theorem orA : Statement (.orA) := ⟨_, _, rfl, rfl⟩
theorem cpB : Statement (.cpB) := ⟨_, _, rfl, rfl⟩
theorem cpC : Statement (.cpC) := ⟨_, _, rfl, rfl⟩
theorem cpD : Statement (.cpD) := ⟨_, _, rfl, rfl⟩
theorem cpE : Statement (.cpE) := ⟨_, _, rfl, rfl⟩
theorem cpH : Statement (.cpH) := ⟨_, _, rfl, rfl⟩
theorem cpL : Statement (.cpL) := ⟨_, _, rfl, rfl⟩
theorem cpIndHl : Statement (.cpIndHl) := ⟨_, _, rfl, rfl⟩
theorem cpA : Statement (.cpA) := ⟨_, _, rfl, rfl⟩
theorem retNz : Statement (.retNz) := ⟨_, _, rfl, rfl⟩
theorem popBc : Statement (.popBc) := ⟨_, _, rfl, rfl⟩
theorem jpNzA16 (w : Word) : Statement (.jpNzA16 w) := ⟨_, _, rfl, rfl⟩
theorem jpA16 (w : Word) : Statement (.jpA16 w) := ⟨_, _, rfl, rfl⟩
theorem callNzA16 (w : Word) : Statement (.callNzA16 w) := ⟨_, _, rfl, rfl⟩
theorem pushBc : Statement (.pushBc) := ⟨_, _, rfl, rfl⟩
theorem addAD8 (n : Byte) : Statement (.addAD8 n) := ⟨_, _, rfl, rfl⟩
theorem rst00 : Statement (.rst00) := ⟨_, _, rfl, rfl⟩
theorem retZ : Statement (.retZ) := ⟨_, _, rfl, rfl⟩
theorem ret : Statement (.ret) := ⟨_, _, rfl, rfl⟩
theorem jpZA16 (w : Word) : Statement (.jpZA16 w) := ⟨_, _, rfl, rfl⟩
theorem prefixCb (op2 : Byte) : Statement (.prefixCb op2) := ⟨_, _, rfl, rfl⟩
theorem callZA16 (w : Word) : Statement (.callZA16 w) := ⟨_, _, rfl, rfl⟩
theorem callA16 (w : Word) : Statement (.callA16 w) := ⟨_, _, rfl, rfl⟩
theorem adcAD8 (n : Byte) : Statement (.adcAD8 n) := ⟨_, _, rfl, rfl⟩
theorem rst08 : Statement (.rst08) := ⟨_, _, rfl, rfl⟩
theorem retNc : Statement (.retNc) := ⟨_, _, rfl, rfl⟩
theorem popDe : Statement (.popDe) := ⟨_, _, rfl, rfl⟩
theorem jpNcA16 (w : Word) : Statement (.jpNcA16 w) := ⟨_, _, rfl, rfl⟩
theorem illegalD3 : Statement (.illegalD3) := ⟨_, _, rfl, rfl⟩
theorem callNcA16 (w : Word) : Statement (.callNcA16 w) := ⟨_, _, rfl, rfl⟩
theorem pushDe : Statement (.pushDe) := ⟨_, _, rfl, rfl⟩
theorem subD8 (n : Byte) : Statement (.subD8 n) := ⟨_, _, rfl, rfl⟩
theorem rst10 : Statement (.rst10) := ⟨_, _, rfl, rfl⟩
theorem retC : Statement (.retC) := ⟨_, _, rfl, rfl⟩
theorem reti : Statement (.reti) := ⟨_, _, rfl, rfl⟩
theorem jpCA16 (w : Word) : Statement (.jpCA16 w) := ⟨_, _, rfl, rfl⟩
theorem illegalDB : Statement (.illegalDB) := ⟨_, _, rfl, rfl⟩
theorem callCA16 (w : Word) : Statement (.callCA16 w) := ⟨_, _, rfl, rfl⟩
theorem illegalDD : Statement (.illegalDD) := ⟨_, _, rfl, rfl⟩
theorem sbcAD8 (n : Byte) : Statement (.sbcAD8 n) := ⟨_, _, rfl, rfl⟩
theorem rst18 : Statement (.rst18) := ⟨_, _, rfl, rfl⟩
theorem ldhIndA8A (n : Byte) : Statement (.ldhIndA8A n) := ⟨_, _, rfl, rfl⟩
theorem popHl : Statement (.popHl) := ⟨_, _, rfl, rfl⟩
theorem ldIndCA : Statement (.ldIndCA) := ⟨_, _, rfl, rfl⟩
theorem illegalE3 : Statement (.illegalE3) := ⟨_, _, rfl, rfl⟩
theorem illegalE4 : Statement (.illegalE4) := ⟨_, _, rfl, rfl⟩
theorem pushHl : Statement (.pushHl) := ⟨_, _, rfl, rfl⟩
theorem andD8 (n : Byte) : Statement (.andD8 n) := ⟨_, _, rfl, rfl⟩
theorem rst20 : Statement (.rst20) := ⟨_, _, rfl, rfl⟩
theorem addSpE8 (e : Byte) : Statement (.addSpE8 e) := ⟨_, _, rfl, rfl⟩
theorem jpHl : Statement (.jpHl) := ⟨_, _, rfl, rfl⟩
theorem ldIndA16A (w : Word) : Statement (.ldIndA16A w) := ⟨_, _, rfl, rfl⟩
theorem illegalEB : Statement (.illegalEB) := ⟨_, _, rfl, rfl⟩
theorem illegalEC : Statement (.illegalEC) := ⟨_, _, rfl, rfl⟩
theorem illegalED : Statement (.illegalED) := ⟨_, _, rfl, rfl⟩
theorem xorD8 (n : Byte) : Statement (.xorD8 n) := ⟨_, _, rfl, rfl⟩
theorem rst28 : Statement (.rst28) := ⟨_, _, rfl, rfl⟩
theorem ldhAIndA8 (n : Byte) : Statement (.ldhAIndA8 n) := ⟨_, _, rfl, rfl⟩
theorem popAf : Statement (.popAf) := ⟨_, _, rfl, rfl⟩
theorem ldAIndC : Statement (.ldAIndC) := ⟨_, _, rfl, rfl⟩
theorem di : Statement (.di) := ⟨_, _, rfl, rfl⟩
theorem illegalF4 : Statement (.illegalF4) := ⟨_, _, rfl, rfl⟩
theorem pushAf : Statement (.pushAf) := ⟨_, _, rfl, rfl⟩
theorem orD8 (n : Byte) : Statement (.orD8 n) := ⟨_, _, rfl, rfl⟩
theorem rst30 : Statement (.rst30) := ⟨_, _, rfl, rfl⟩
theorem ldHlSpE8 (e : Byte) : Statement (.ldHlSpE8 e) := ⟨_, _, rfl, rfl⟩
theorem ldSpHl : Statement (.ldSpHl) := ⟨_, _, rfl, rfl⟩
theorem ldAIndA16 (w : Word) : Statement (.ldAIndA16 w) := ⟨_, _, rfl, rfl⟩
theorem ei : Statement (.ei) := ⟨_, _, rfl, rfl⟩
theorem illegalFC : Statement (.illegalFC) := ⟨_, _, rfl, rfl⟩
theorem illegalFD : Statement (.illegalFD) := ⟨_, _, rfl, rfl⟩
theorem cpD8 (n : Byte) : Statement (.cpD8 n) := ⟨_, _, rfl, rfl⟩
theorem rst38 : Statement (.rst38) := ⟨_, _, rfl, rfl⟩
theorem cbRlcB : Statement (.cbRlcB) := ⟨_, _, rfl, rfl⟩
theorem cbRlcC : Statement (.cbRlcC) := ⟨_, _, rfl, rfl⟩
theorem cbRlcD : Statement (.cbRlcD) := ⟨_, _, rfl, rfl⟩
theorem cbRlcE : Statement (.cbRlcE) := ⟨_, _, rfl, rfl⟩
theorem cbRlcH : Statement (.cbRlcH) := ⟨_, _, rfl, rfl⟩
theorem cbRlcL : Statement (.cbRlcL) := ⟨_, _, rfl, rfl⟩
theorem cbRlcIndHl : Statement (.cbRlcIndHl) := ⟨_, _, rfl, rfl⟩
theorem cbRlcA : Statement (.cbRlcA) := ⟨_, _, rfl, rfl⟩
theorem cbRrcB : Statement (.cbRrcB) := ⟨_, _, rfl, rfl⟩
theorem cbRrcC : Statement (.cbRrcC) := ⟨_, _, rfl, rfl⟩
theorem cbRrcD : Statement (.cbRrcD) := ⟨_, _, rfl, rfl⟩
theorem cbRrcE : Statement (.cbRrcE) := ⟨_, _, rfl, rfl⟩
theorem cbRrcH : Statement (.cbRrcH) := ⟨_, _, rfl, rfl⟩
theorem cbRrcL : Statement (.cbRrcL) := ⟨_, _, rfl, rfl⟩
theorem cbRrcIndHl : Statement (.cbRrcIndHl) := ⟨_, _, rfl, rfl⟩
theorem cbRrcA : Statement (.cbRrcA) := ⟨_, _, rfl, rfl⟩
theorem cbRlB : Statement (.cbRlB) := ⟨_, _, rfl, rfl⟩
theorem cbRlC : Statement (.cbRlC) := ⟨_, _, rfl, rfl⟩
theorem cbRlD : Statement (.cbRlD) := ⟨_, _, rfl, rfl⟩
theorem cbRlE : Statement (.cbRlE) := ⟨_, _, rfl, rfl⟩
theorem cbRlH : Statement (.cbRlH) := ⟨_, _, rfl, rfl⟩
theorem cbRlL : Statement (.cbRlL) := ⟨_, _, rfl, rfl⟩
theorem cbRlIndHl : Statement (.cbRlIndHl) := ⟨_, _, rfl, rfl⟩
theorem cbRlA : Statement (.cbRlA) := ⟨_, _, rfl, rfl⟩
theorem cbRrB : Statement (.cbRrB) := ⟨_, _, rfl, rfl⟩
theorem cbRrC : Statement (.cbRrC) := ⟨_, _, rfl, rfl⟩
theorem cbRrD : Statement (.cbRrD) := ⟨_, _, rfl, rfl⟩
theorem cbRrE : Statement (.cbRrE) := ⟨_, _, rfl, rfl⟩
theorem cbRrH : Statement (.cbRrH) := ⟨_, _, rfl, rfl⟩
theorem cbRrL : Statement (.cbRrL) := ⟨_, _, rfl, rfl⟩
theorem cbRrIndHl : Statement (.cbRrIndHl) := ⟨_, _, rfl, rfl⟩
theorem cbRrA : Statement (.cbRrA) := ⟨_, _, rfl, rfl⟩
theorem cbSlaB : Statement (.cbSlaB) := ⟨_, _, rfl, rfl⟩
theorem cbSlaC : Statement (.cbSlaC) := ⟨_, _, rfl, rfl⟩
theorem cbSlaD : Statement (.cbSlaD) := ⟨_, _, rfl, rfl⟩
theorem cbSlaE : Statement (.cbSlaE) := ⟨_, _, rfl, rfl⟩
theorem cbSlaH : Statement (.cbSlaH) := ⟨_, _, rfl, rfl⟩
theorem cbSlaL : Statement (.cbSlaL) := ⟨_, _, rfl, rfl⟩
theorem cbSlaIndHl : Statement (.cbSlaIndHl) := ⟨_, _, rfl, rfl⟩
theorem cbSlaA : Statement (.cbSlaA) := ⟨_, _, rfl, rfl⟩
theorem cbSraB : Statement (.cbSraB) := ⟨_, _, rfl, rfl⟩
theorem cbSraC : Statement (.cbSraC) := ⟨_, _, rfl, rfl⟩
theorem cbSraD : Statement (.cbSraD) := ⟨_, _, rfl, rfl⟩
theorem cbSraE : Statement (.cbSraE) := ⟨_, _, rfl, rfl⟩
theorem cbSraH : Statement (.cbSraH) := ⟨_, _, rfl, rfl⟩
theorem cbSraL : Statement (.cbSraL) := ⟨_, _, rfl, rfl⟩
theorem cbSraIndHl : Statement (.cbSraIndHl) := ⟨_, _, rfl, rfl⟩
theorem cbSraA : Statement (.cbSraA) := ⟨_, _, rfl, rfl⟩
theorem cbSwapB : Statement (.cbSwapB) := ⟨_, _, rfl, rfl⟩
theorem cbSwapC : Statement (.cbSwapC) := ⟨_, _, rfl, rfl⟩
theorem cbSwapD : Statement (.cbSwapD) := ⟨_, _, rfl, rfl⟩
theorem cbSwapE : Statement (.cbSwapE) := ⟨_, _, rfl, rfl⟩
theorem cbSwapH : Statement (.cbSwapH) := ⟨_, _, rfl, rfl⟩
theorem cbSwapL : Statement (.cbSwapL) := ⟨_, _, rfl, rfl⟩
theorem cbSwapIndHl : Statement (.cbSwapIndHl) := ⟨_, _, rfl, rfl⟩
theorem cbSwapA : Statement (.cbSwapA) := ⟨_, _, rfl, rfl⟩
theorem cbSrlB : Statement (.cbSrlB) := ⟨_, _, rfl, rfl⟩
theorem cbSrlC : Statement (.cbSrlC) := ⟨_, _, rfl, rfl⟩
theorem cbSrlD : Statement (.cbSrlD) := ⟨_, _, rfl, rfl⟩
theorem cbSrlE : Statement (.cbSrlE) := ⟨_, _, rfl, rfl⟩
theorem cbSrlH : Statement (.cbSrlH) := ⟨_, _, rfl, rfl⟩
theorem cbSrlL : Statement (.cbSrlL) := ⟨_, _, rfl, rfl⟩
theorem cbSrlIndHl : Statement (.cbSrlIndHl) := ⟨_, _, rfl, rfl⟩
theorem cbSrlA : Statement (.cbSrlA) := ⟨_, _, rfl, rfl⟩
theorem cbBit0B : Statement (.cbBit0B) := ⟨_, _, rfl, rfl⟩
theorem cbBit0C : Statement (.cbBit0C) := ⟨_, _, rfl, rfl⟩
theorem cbBit0D : Statement (.cbBit0D) := ⟨_, _, rfl, rfl⟩
theorem cbBit0E : Statement (.cbBit0E) := ⟨_, _, rfl, rfl⟩
theorem cbBit0H : Statement (.cbBit0H) := ⟨_, _, rfl, rfl⟩
theorem cbBit0L : Statement (.cbBit0L) := ⟨_, _, rfl, rfl⟩
theorem cbBit0IndHl : Statement (.cbBit0IndHl) := ⟨_, _, rfl, rfl⟩
theorem cbBit0A : Statement (.cbBit0A) := ⟨_, _, rfl, rfl⟩
theorem cbBit1B : Statement (.cbBit1B) := ⟨_, _, rfl, rfl⟩
theorem cbBit1C : Statement (.cbBit1C) := ⟨_, _, rfl, rfl⟩
theorem cbBit1D : Statement (.cbBit1D) := ⟨_, _, rfl, rfl⟩
theorem cbBit1E : Statement (.cbBit1E) := ⟨_, _, rfl, rfl⟩
theorem cbBit1H : Statement (.cbBit1H) := ⟨_, _, rfl, rfl⟩
theorem cbBit1L : Statement (.cbBit1L) := ⟨_, _, rfl, rfl⟩
theorem cbBit1IndHl : Statement (.cbBit1IndHl) := ⟨_, _, rfl, rfl⟩
theorem cbBit1A : Statement (.cbBit1A) := ⟨_, _, rfl, rfl⟩
theorem cbBit2B : Statement (.cbBit2B) := ⟨_, _, rfl, rfl⟩
theorem cbBit2C : Statement (.cbBit2C) := ⟨_, _, rfl, rfl⟩
theorem cbBit2D : Statement (.cbBit2D) := ⟨_, _, rfl, rfl⟩
theorem cbBit2E : Statement (.cbBit2E) := ⟨_, _, rfl, rfl⟩
theorem cbBit2H : Statement (.cbBit2H) := ⟨_, _, rfl, rfl⟩
theorem cbBit2L : Statement (.cbBit2L) := ⟨_, _, rfl, rfl⟩
theorem cbBit2IndHl : Statement (.cbBit2IndHl) := ⟨_, _, rfl, rfl⟩
theorem cbBit2A : Statement (.cbBit2A) := ⟨_, _, rfl, rfl⟩
theorem cbBit3B : Statement (.cbBit3B) := ⟨_, _, rfl, rfl⟩
theorem cbBit3C : Statement (.cbBit3C) := ⟨_, _, rfl, rfl⟩
theorem cbBit3D : Statement (.cbBit3D) := ⟨_, _, rfl, rfl⟩
theorem cbBit3E : Statement (.cbBit3E) := ⟨_, _, rfl, rfl⟩
theorem cbBit3H : Statement (.cbBit3H) := ⟨_, _, rfl, rfl⟩
theorem cbBit3L : Statement (.cbBit3L) := ⟨_, _, rfl, rfl⟩
theorem cbBit3IndHl : Statement (.cbBit3IndHl) := ⟨_, _, rfl, rfl⟩
theorem cbBit3A : Statement (.cbBit3A) := ⟨_, _, rfl, rfl⟩
theorem cbBit4B : Statement (.cbBit4B) := ⟨_, _, rfl, rfl⟩
theorem cbBit4C : Statement (.cbBit4C) := ⟨_, _, rfl, rfl⟩
theorem cbBit4D : Statement (.cbBit4D) := ⟨_, _, rfl, rfl⟩
theorem cbBit4E : Statement (.cbBit4E) := ⟨_, _, rfl, rfl⟩
theorem cbBit4H : Statement (.cbBit4H) := ⟨_, _, rfl, rfl⟩
theorem cbBit4L : Statement (.cbBit4L) := ⟨_, _, rfl, rfl⟩
theorem cbBit4IndHl : Statement (.cbBit4IndHl) := ⟨_, _, rfl, rfl⟩
theorem cbBit4A : Statement (.cbBit4A) := ⟨_, _, rfl, rfl⟩
theorem cbBit5B : Statement (.cbBit5B) := ⟨_, _, rfl, rfl⟩
theorem cbBit5C : Statement (.cbBit5C) := ⟨_, _, rfl, rfl⟩
theorem cbBit5D : Statement (.cbBit5D) := ⟨_, _, rfl, rfl⟩
theorem cbBit5E : Statement (.cbBit5E) := ⟨_, _, rfl, rfl⟩
theorem cbBit5H : Statement (.cbBit5H) := ⟨_, _, rfl, rfl⟩
theorem cbBit5L : Statement (.cbBit5L) := ⟨_, _, rfl, rfl⟩
theorem cbBit5IndHl : Statement (.cbBit5IndHl) := ⟨_, _, rfl, rfl⟩
theorem cbBit5A : Statement (.cbBit5A) := ⟨_, _, rfl, rfl⟩
theorem cbBit6B : Statement (.cbBit6B) := ⟨_, _, rfl, rfl⟩
theorem cbBit6C : Statement (.cbBit6C) := ⟨_, _, rfl, rfl⟩
theorem cbBit6D : Statement (.cbBit6D) := ⟨_, _, rfl, rfl⟩
theorem cbBit6E : Statement (.cbBit6E) := ⟨_, _, rfl, rfl⟩
theorem cbBit6H : Statement (.cbBit6H) := ⟨_, _, rfl, rfl⟩
theorem cbBit6L : Statement (.cbBit6L) := ⟨_, _, rfl, rfl⟩
theorem cbBit6IndHl : Statement (.cbBit6IndHl) := ⟨_, _, rfl, rfl⟩
theorem cbBit6A : Statement (.cbBit6A) := ⟨_, _, rfl, rfl⟩
theorem cbBit7B : Statement (.cbBit7B) := ⟨_, _, rfl, rfl⟩
theorem cbBit7C : Statement (.cbBit7C) := ⟨_, _, rfl, rfl⟩
theorem cbBit7D : Statement (.cbBit7D) := ⟨_, _, rfl, rfl⟩
theorem cbBit7E : Statement (.cbBit7E) := ⟨_, _, rfl, rfl⟩
theorem cbBit7H : Statement (.cbBit7H) := ⟨_, _, rfl, rfl⟩
theorem cbBit7L : Statement (.cbBit7L) := ⟨_, _, rfl, rfl⟩
theorem cbBit7IndHl : Statement (.cbBit7IndHl) := ⟨_, _, rfl, rfl⟩
theorem cbBit7A : Statement (.cbBit7A) := ⟨_, _, rfl, rfl⟩
theorem cbRes0B : Statement (.cbRes0B) := ⟨_, _, rfl, rfl⟩
theorem cbRes0C : Statement (.cbRes0C) := ⟨_, _, rfl, rfl⟩
theorem cbRes0D : Statement (.cbRes0D) := ⟨_, _, rfl, rfl⟩
theorem cbRes0E : Statement (.cbRes0E) := ⟨_, _, rfl, rfl⟩
theorem cbRes0H : Statement (.cbRes0H) := ⟨_, _, rfl, rfl⟩
theorem cbRes0L : Statement (.cbRes0L) := ⟨_, _, rfl, rfl⟩
theorem cbRes0IndHl : Statement (.cbRes0IndHl) := ⟨_, _, rfl, rfl⟩
theorem cbRes0A : Statement (.cbRes0A) := ⟨_, _, rfl, rfl⟩
theorem cbRes1B : Statement (.cbRes1B) := ⟨_, _, rfl, rfl⟩
theorem cbRes1C : Statement (.cbRes1C) := ⟨_, _, rfl, rfl⟩
theorem cbRes1D : Statement (.cbRes1D) := ⟨_, _, rfl, rfl⟩
theorem cbRes1E : Statement (.cbRes1E) := ⟨_, _, rfl, rfl⟩
theorem cbRes1H : Statement (.cbRes1H) := ⟨_, _, rfl, rfl⟩
theorem cbRes1L : Statement (.cbRes1L) := ⟨_, _, rfl, rfl⟩
theorem cbRes1IndHl : Statement (.cbRes1IndHl) := ⟨_, _, rfl, rfl⟩
theorem cbRes1A : Statement (.cbRes1A) := ⟨_, _, rfl, rfl⟩
theorem cbRes2B : Statement (.cbRes2B) := ⟨_, _, rfl, rfl⟩
theorem cbRes2C : Statement (.cbRes2C) := ⟨_, _, rfl, rfl⟩
theorem cbRes2D : Statement (.cbRes2D) := ⟨_, _, rfl, rfl⟩
theorem cbRes2E : Statement (.cbRes2E) := ⟨_, _, rfl, rfl⟩
theorem cbRes2H : Statement (.cbRes2H) := ⟨_, _, rfl, rfl⟩
theorem cbRes2L : Statement (.cbRes2L) := ⟨_, _, rfl, rfl⟩
theorem cbRes2IndHl : Statement (.cbRes2IndHl) := ⟨_, _, rfl, rfl⟩
theorem cbRes2A : Statement (.cbRes2A) := ⟨_, _, rfl, rfl⟩
theorem cbRes3B : Statement (.cbRes3B) := ⟨_, _, rfl, rfl⟩
theorem cbRes3C : Statement (.cbRes3C) := ⟨_, _, rfl, rfl⟩
theorem cbRes3D : Statement (.cbRes3D) := ⟨_, _, rfl, rfl⟩
theorem cbRes3E : Statement (.cbRes3E) := ⟨_, _, rfl, rfl⟩
theorem cbRes3H : Statement (.cbRes3H) := ⟨_, _, rfl, rfl⟩
theorem cbRes3L : Statement (.cbRes3L) := ⟨_, _, rfl, rfl⟩
theorem cbRes3IndHl : Statement (.cbRes3IndHl) := ⟨_, _, rfl, rfl⟩
theorem cbRes3A : Statement (.cbRes3A) := ⟨_, _, rfl, rfl⟩
theorem cbRes4B : Statement (.cbRes4B) := ⟨_, _, rfl, rfl⟩
theorem cbRes4C : Statement (.cbRes4C) := ⟨_, _, rfl, rfl⟩
theorem cbRes4D : Statement (.cbRes4D) := ⟨_, _, rfl, rfl⟩
theorem cbRes4E : Statement (.cbRes4E) := ⟨_, _, rfl, rfl⟩
theorem cbRes4H : Statement (.cbRes4H) := ⟨_, _, rfl, rfl⟩
theorem cbRes4L : Statement (.cbRes4L) := ⟨_, _, rfl, rfl⟩
theorem cbRes4IndHl : Statement (.cbRes4IndHl) := ⟨_, _, rfl, rfl⟩
theorem cbRes4A : Statement (.cbRes4A) := ⟨_, _, rfl, rfl⟩
theorem cbRes5B : Statement (.cbRes5B) := ⟨_, _, rfl, rfl⟩
theorem cbRes5C : Statement (.cbRes5C) := ⟨_, _, rfl, rfl⟩
theorem cbRes5D : Statement (.cbRes5D) := ⟨_, _, rfl, rfl⟩
theorem cbRes5E : Statement (.cbRes5E) := ⟨_, _, rfl, rfl⟩
theorem cbRes5H : Statement (.cbRes5H) := ⟨_, _, rfl, rfl⟩
theorem cbRes5L : Statement (.cbRes5L) := ⟨_, _, rfl, rfl⟩
theorem cbRes5IndHl : Statement (.cbRes5IndHl) := ⟨_, _, rfl, rfl⟩
theorem cbRes5A : Statement (.cbRes5A) := ⟨_, _, rfl, rfl⟩
theorem cbRes6B : Statement (.cbRes6B) := ⟨_, _, rfl, rfl⟩
theorem cbRes6C : Statement (.cbRes6C) := ⟨_, _, rfl, rfl⟩
theorem cbRes6D : Statement (.cbRes6D) := ⟨_, _, rfl, rfl⟩
theorem cbRes6E : Statement (.cbRes6E) := ⟨_, _, rfl, rfl⟩
theorem cbRes6H : Statement (.cbRes6H) := ⟨_, _, rfl, rfl⟩
theorem cbRes6L : Statement (.cbRes6L) := ⟨_, _, rfl, rfl⟩
theorem cbRes6IndHl : Statement (.cbRes6IndHl) := ⟨_, _, rfl, rfl⟩
theorem cbRes6A : Statement (.cbRes6A) := ⟨_, _, rfl, rfl⟩
theorem cbRes7B : Statement (.cbRes7B) := ⟨_, _, rfl, rfl⟩
theorem cbRes7C : Statement (.cbRes7C) := ⟨_, _, rfl, rfl⟩
theorem cbRes7D : Statement (.cbRes7D) := ⟨_, _, rfl, rfl⟩
theorem cbRes7E : Statement (.cbRes7E) := ⟨_, _, rfl, rfl⟩
theorem cbRes7H : Statement (.cbRes7H) := ⟨_, _, rfl, rfl⟩
theorem cbRes7L : Statement (.cbRes7L) := ⟨_, _, rfl, rfl⟩
theorem cbRes7IndHl : Statement (.cbRes7IndHl) := ⟨_, _, rfl, rfl⟩
theorem cbRes7A : Statement (.cbRes7A) := ⟨_, _, rfl, rfl⟩
theorem cbSet0B : Statement (.cbSet0B) := ⟨_, _, rfl, rfl⟩
theorem cbSet0C : Statement (.cbSet0C) := ⟨_, _, rfl, rfl⟩
theorem cbSet0D : Statement (.cbSet0D) := ⟨_, _, rfl, rfl⟩
theorem cbSet0E : Statement (.cbSet0E) := ⟨_, _, rfl, rfl⟩
theorem cbSet0H : Statement (.cbSet0H) := ⟨_, _, rfl, rfl⟩
theorem cbSet0L : Statement (.cbSet0L) := ⟨_, _, rfl, rfl⟩
theorem cbSet0IndHl : Statement (.cbSet0IndHl) := ⟨_, _, rfl, rfl⟩
theorem cbSet0A : Statement (.cbSet0A) := ⟨_, _, rfl, rfl⟩
theorem cbSet1B : Statement (.cbSet1B) := ⟨_, _, rfl, rfl⟩
theorem cbSet1C : Statement (.cbSet1C) := ⟨_, _, rfl, rfl⟩
theorem cbSet1D : Statement (.cbSet1D) := ⟨_, _, rfl, rfl⟩
theorem cbSet1E : Statement (.cbSet1E) := ⟨_, _, rfl, rfl⟩
theorem cbSet1H : Statement (.cbSet1H) := ⟨_, _, rfl, rfl⟩
theorem cbSet1L : Statement (.cbSet1L) := ⟨_, _, rfl, rfl⟩
theorem cbSet1IndHl : Statement (.cbSet1IndHl) := ⟨_, _, rfl, rfl⟩
theorem cbSet1A : Statement (.cbSet1A) := ⟨_, _, rfl, rfl⟩
theorem cbSet2B : Statement (.cbSet2B) := ⟨_, _, rfl, rfl⟩
theorem cbSet2C : Statement (.cbSet2C) := ⟨_, _, rfl, rfl⟩
theorem cbSet2D : Statement (.cbSet2D) := ⟨_, _, rfl, rfl⟩
theorem cbSet2E : Statement (.cbSet2E) := ⟨_, _, rfl, rfl⟩
theorem cbSet2H : Statement (.cbSet2H) := ⟨_, _, rfl, rfl⟩
theorem cbSet2L : Statement (.cbSet2L) := ⟨_, _, rfl, rfl⟩
theorem cbSet2IndHl : Statement (.cbSet2IndHl) := ⟨_, _, rfl, rfl⟩
theorem cbSet2A : Statement (.cbSet2A) := ⟨_, _, rfl, rfl⟩
theorem cbSet3B : Statement (.cbSet3B) := ⟨_, _, rfl, rfl⟩
theorem cbSet3C : Statement (.cbSet3C) := ⟨_, _, rfl, rfl⟩
theorem cbSet3D : Statement (.cbSet3D) := ⟨_, _, rfl, rfl⟩
theorem cbSet3E : Statement (.cbSet3E) := ⟨_, _, rfl, rfl⟩
theorem cbSet3H : Statement (.cbSet3H) := ⟨_, _, rfl, rfl⟩
theorem cbSet3L : Statement (.cbSet3L) := ⟨_, _, rfl, rfl⟩
theorem cbSet3IndHl : Statement (.cbSet3IndHl) := ⟨_, _, rfl, rfl⟩
theorem cbSet3A : Statement (.cbSet3A) := ⟨_, _, rfl, rfl⟩
theorem cbSet4B : Statement (.cbSet4B) := ⟨_, _, rfl, rfl⟩
theorem cbSet4C : Statement (.cbSet4C) := ⟨_, _, rfl, rfl⟩
theorem cbSet4D : Statement (.cbSet4D) := ⟨_, _, rfl, rfl⟩
theorem cbSet4E : Statement (.cbSet4E) := ⟨_, _, rfl, rfl⟩
theorem cbSet4H : Statement (.cbSet4H) := ⟨_, _, rfl, rfl⟩
theorem cbSet4L : Statement (.cbSet4L) := ⟨_, _, rfl, rfl⟩
theorem cbSet4IndHl : Statement (.cbSet4IndHl) := ⟨_, _, rfl, rfl⟩
theorem cbSet4A : Statement (.cbSet4A) := ⟨_, _, rfl, rfl⟩
theorem cbSet5B : Statement (.cbSet5B) := ⟨_, _, rfl, rfl⟩
theorem cbSet5C : Statement (.cbSet5C) := ⟨_, _, rfl, rfl⟩
theorem cbSet5D : Statement (.cbSet5D) := ⟨_, _, rfl, rfl⟩
theorem cbSet5E : Statement (.cbSet5E) := ⟨_, _, rfl, rfl⟩
theorem cbSet5H : Statement (.cbSet5H) := ⟨_, _, rfl, rfl⟩
theorem cbSet5L : Statement (.cbSet5L) := ⟨_, _, rfl, rfl⟩
theorem cbSet5IndHl : Statement (.cbSet5IndHl) := ⟨_, _, rfl, rfl⟩
theorem cbSet5A : Statement (.cbSet5A) := ⟨_, _, rfl, rfl⟩
theorem cbSet6B : Statement (.cbSet6B) := ⟨_, _, rfl, rfl⟩
theorem cbSet6C : Statement (.cbSet6C) := ⟨_, _, rfl, rfl⟩
theorem cbSet6D : Statement (.cbSet6D) := ⟨_, _, rfl, rfl⟩
theorem cbSet6E : Statement (.cbSet6E) := ⟨_, _, rfl, rfl⟩
theorem cbSet6H : Statement (.cbSet6H) := ⟨_, _, rfl, rfl⟩
theorem cbSet6L : Statement (.cbSet6L) := ⟨_, _, rfl, rfl⟩
theorem cbSet6IndHl : Statement (.cbSet6IndHl) := ⟨_, _, rfl, rfl⟩
theorem cbSet6A : Statement (.cbSet6A) := ⟨_, _, rfl, rfl⟩
theorem cbSet7B : Statement (.cbSet7B) := ⟨_, _, rfl, rfl⟩
theorem cbSet7C : Statement (.cbSet7C) := ⟨_, _, rfl, rfl⟩
theorem cbSet7D : Statement (.cbSet7D) := ⟨_, _, rfl, rfl⟩
theorem cbSet7E : Statement (.cbSet7E) := ⟨_, _, rfl, rfl⟩
theorem cbSet7H : Statement (.cbSet7H) := ⟨_, _, rfl, rfl⟩
theorem cbSet7L : Statement (.cbSet7L) := ⟨_, _, rfl, rfl⟩
theorem cbSet7IndHl : Statement (.cbSet7IndHl) := ⟨_, _, rfl, rfl⟩
theorem cbSet7A : Statement (.cbSet7A) := ⟨_, _, rfl, rfl⟩

end Sys2Proof.Laws.EncodedLength
end

