-- ==== Sys2Proof/Laws/Ppu.lean ====
section
/-! SUPPORT. What the PPU can do: it writes its own state and IF, and nothing else; and the loop of R451 runs to its end
with the fuel it is given. -/

namespace Sys2Proof.Machine

/-- Every mode lasts at least 80 ticks. -/
theorem PpuMode.duration_ge (m : PpuMode) : 80 ≤ m.duration := by cases m <;> decide

/-- Rendering a line changes the framebuffer only. -/
theorem State.renderLine_eq (s : State) : ∃ fb, s.renderLine = { s with ppu := { s.ppu with framebuffer := fb } } := by
  unfold State.renderLine
  split
  · exact ⟨_, rfl⟩
  · exact ⟨s.ppu.framebuffer, rfl⟩

/-- The end of a mode: what a change of the PPU's own state and a raise of vblank or lcd-stat keep, it keeps. -/
theorem State.endOfMode_induct (P : State → Prop) (hp : ∀ t p, P t → P { t with ppu := p })
    (hr : ∀ t k, P t → P (State.raiseIrq t k)) (s : State) (h : P s) : P s.endOfMode := by
  unfold State.endOfMode
  split
  · exact hp _ _ h
  · unfold State.endTransfer
    have h1 : P (if s.ppu.line = (s.peek 0xFF45).toNat then s.raiseIrq .lcdStat else s) := by
      split
      · exact hr _ _ h
      · exact h
    dsimp only
    generalize (if s.ppu.line = (s.peek 0xFF45).toNat then s.raiseIrq .lcdStat else s) = t at h1 ⊢
    obtain ⟨fb, hfb⟩ := t.renderLine_eq
    rw [hfb]
    exact hp _ _ (hp _ _ h1)
  · unfold State.endHblank
    dsimp only
    split
    · exact hp _ _ (hr _ _ (hp _ _ h))
    · exact hp _ _ (hp _ _ h)
  · unfold State.endVblank
    dsimp only
    split
    · exact hp _ _ (hp _ _ (hp _ _ h))
    · exact hp _ _ h

/-- The loop of R451: what the end of a mode and a change of the PPU's own state keep, it keeps. -/
theorem ppuLoop_induct (P : State → Prop) (hp : ∀ t p, P t → P { t with ppu := p })
    (he : ∀ t, P t → P (State.endOfMode t)) (fuel : Nat) (s : State) (h : P s) : P (ppuLoop fuel s) := by
  induction fuel generalizing s with
  | zero => exact h
  | succ fuel ih =>
    unfold ppuLoop
    split
    · exact ih _ (he _ (hp _ _ h))
    · exact h

/-- A PPU step: what a change of the PPU's own state and a raise of vblank or lcd-stat keep, it keeps. -/
theorem State.ppuStep_induct (P : State → Prop) (hp : ∀ t p, P t → P { t with ppu := p })
    (hr : ∀ t k, P t → P (State.raiseIrq t k)) (s : State) (h : P s) : P s.ppuStep :=
  ppuLoop_induct P hp (State.endOfMode_induct P hp hr) _ _ (hp _ _ h)

/-- A PPU step changes memory and the PPU's own state only. -/
theorem State.ppuStep_eq (s : State) : ∃ m p, s.ppuStep = { s with mem := m, ppu := p } := by
  refine s.ppuStep_induct (fun t => ∃ m p, t = { s with mem := m, ppu := p }) (fun t p ⟨m, _, h⟩ => ⟨m, p, by rw [h]⟩)
    (fun t k ⟨m, p, h⟩ => ?_) ⟨s.mem, s.ppu, rfl⟩
  obtain ⟨m', h'⟩ := t.raiseIrq_eq k
  exact ⟨m', p, by rw [h', h]⟩

/-- The end of a mode spends no budget. -/
@[simp] theorem State.endOfMode_budget (s : State) : s.endOfMode.ppu.budget = s.ppu.budget := by
  have hr : ∀ (t : State) k, (t.raiseIrq k).ppu = t.ppu := fun t k => by
    obtain ⟨m, hm⟩ := t.raiseIrq_eq k
    rw [hm]
  unfold State.endOfMode
  split
  · rfl
  · unfold State.endTransfer
    obtain ⟨fb, hfb⟩ := (if s.ppu.line = (s.peek 0xFF45).toNat then s.raiseIrq .lcdStat else s).renderLine_eq
    dsimp only
    rw [hfb]
    show (if s.ppu.line = (s.peek 0xFF45).toNat then s.raiseIrq .lcdStat else s).ppu.budget = _
    split
    · rw [hr]
    · rfl
  · unfold State.endHblank
    dsimp only
    split
    · show ((s.setLine (s.ppu.line + 1)).raiseIrq .vblank).ppu.budget = _
      rw [hr]
      rfl
    · rfl
  · unfold State.endVblank
    dsimp only
    split <;> rfl

/-- With fuel for a transition every 80 ticks, the loop ends with less budget than the mode lasts: the fuel never cuts it
short. -/
theorem ppuLoop_budget_lt (fuel : Nat) (s : State) (h : s.ppu.budget / 80 ≤ fuel) :
    (ppuLoop fuel s).ppu.budget < (ppuLoop fuel s).ppu.mode.duration := by
  induction fuel generalizing s with
  | zero =>
    have := s.ppu.mode.duration_ge
    show s.ppu.budget < s.ppu.mode.duration
    omega
  | succ fuel ih =>
    have hd := s.ppu.mode.duration_ge
    unfold ppuLoop
    split
    · refine ih _ ?_
      rw [State.endOfMode_budget, State.setBudget_ppu]
      show (s.ppu.budget - s.ppu.mode.duration) / 80 ≤ fuel
      omega
    · omega

/-- More fuel than needed changes nothing. -/
theorem ppuLoop_fuel (fuel fuel' : Nat) (s : State) (h : s.ppu.budget / 80 ≤ fuel) (h' : s.ppu.budget / 80 ≤ fuel') :
    ppuLoop fuel s = ppuLoop fuel' s := by
  induction fuel generalizing fuel' s with
  | zero =>
    have hd := s.ppu.mode.duration_ge
    cases fuel' with
    | zero => rfl
    | succ n => rw [ppuLoop, ppuLoop, if_neg (by omega)]
  | succ fuel ih =>
    have hd := s.ppu.mode.duration_ge
    cases fuel' with
    | zero => rw [ppuLoop, ppuLoop, if_neg (by omega)]
    | succ fuel' =>
      rw [ppuLoop, ppuLoop]
      split
      · refine ih _ _ ?_ ?_ <;> rw [State.endOfMode_budget, State.setBudget_ppu] <;>
          show (s.ppu.budget - s.ppu.mode.duration) / 80 ≤ _ <;> omega
      · rfl

/-- After a PPU step the budget left is under the mode's duration (R451). -/
theorem State.ppuStep_budget_lt (s : State) : s.ppuStep.ppu.budget < s.ppuStep.ppu.mode.duration :=
  ppuLoop_budget_lt _ _ (Nat.le_refl _)

end Sys2Proof.Machine
end

