-- ==== Sys2Proof/Laws/Step.lean ====
section
/-! SUPPORT. What a machine step can do, said once: its inversion into phases, and the rule for proving that a step keeps a
property. -/

namespace Sys2Proof.Machine

/-- A step that answers a next state was taken from a running state, and was either an idle step or one executed
instruction, each followed by its end and by the PPU (R145, R71). -/
theorem step_cases {s t : State} (h : step s = .next t) :
    s.fatal = none ∧
      ((s.interruptPhase.idle = true ∧ t = ((s.interruptPhase.tick 4).endStep s.ticks).ppuPhase) ∨
        (s.interruptPhase.idle = false ∧ ∃ u,
          Executed (s.interruptPhase.pastFetch s.interruptPhase.fetchLength) u ∧
            exec s.interruptPhase.fetchInstr (s.interruptPhase.pastFetch s.interruptPhase.fetchLength) = .next u ∧
              t = (u.afterExec s.ticks).ppuPhase)) := by
  unfold step State.machineStep at h
  split at h
  · exact absurd h (by simp)
  · rename_i hf
    refine ⟨hf, ?_⟩
    unfold State.interpStep at h
    dsimp only at h
    split at h
    · rename_i hi
      left
      simp only [onNext, Host.Outcome.next.injEq] at h
      exact ⟨hi, h.symm⟩
    · rename_i hi
      right
      refine ⟨by simpa using hi, ?_⟩
      cases hx : exec s.interruptPhase.fetchInstr (s.interruptPhase.pastFetch s.interruptPhase.fetchLength) with
      | next u =>
        rw [hx] at h
        simp only [onNext, Host.Outcome.next.injEq] at h
        exact ⟨u, exec_next hx, rfl, h.symm⟩
      | fault e => rw [hx] at h; simp [onNext] at h
      | refused e => rw [hx] at h; simp [onNext] at h

/-- The interrupt phase clears `halted` or enters an interrupt: what those keep, it keeps. -/
theorem State.interruptPhase_induct (P : State → Prop) (hwake : ∀ t, P t → P { t with halted := false })
    (hent : ∀ t k, P t → P (State.enterInterrupt t k)) (s : State) (h : P s) : P s.interruptPhase := by
  unfold State.interruptPhase
  dsimp only
  have h1 : P (if s.pending ≠ 0 then { s with halted := false } else s) := by
    split
    · exact hwake _ h
    · exact h
  generalize (if s.pending ≠ 0 then { s with halted := false } else s) = t at h1 ⊢
  split
  · split
    · exact hent _ _ h1
    · exact h1
  · exact h1

/-- The EI rule sets the master enable and lowers its delay, or does nothing (R367). -/
theorem State.eiRule_eq (s : State) : ∃ b d, d ≤ s.eiDelay ∧ s.eiRule = { s with ime := b, eiDelay := d } := by
  unfold State.eiRule
  split
  · exact ⟨s.ime, s.eiDelay, Nat.le_refl _, rfl⟩
  · exact ⟨true, 0, Nat.zero_le _, rfl⟩
  · rename_i n h
    exact ⟨s.ime, n + 1, by omega, rfl⟩

/-- A property of the backing store that every write to an address of the store keeps is kept by a machine step. -/
theorem step_mem_induct (P : Memory → Prop)
    (hP : ∀ m a v, Store.holds .bus a = true → P m → P (Memory.write .bus m a v)) {s t : State}
    (h : step s = .next t) (h0 : P s.mem) : P t.mem := by
  have hw : ∀ (u : State) a v, P u.mem → P (u.memWrite a v).mem := fun u a v hu => u.memWrite_mem_induct P hP a v hu
  have hent : ∀ (u : State) k, P u.mem → P (u.enterInterrupt k).mem := fun u k hu =>
    State.enterInterrupt_induct (fun u => P u.mem) (fun _ _ hu => hP _ _ _ (by decide) hu) (fun _ hu => hu)
      (fun _ _ hu => hu) hw (fun _ _ hu => hu) (fun _ hu => hu) u k hu
  have hint : P s.interruptPhase.mem := State.interruptPhase_induct (fun u => P u.mem) (fun _ hu => hu) hent s h0
  have hend : ∀ (u : State) d, P u.mem → P (u.endStep d).mem := fun u d hu =>
    State.advanceTimers_mem_induct P
      (fun _ _ _ ha hm => hP _ _ _ (Store.bus_holds (by rcases ha with rfl | rfl | rfl <;> decide)) hm) u _ hu
  have hraise : ∀ (u : State) k, P u.mem → P (u.raiseIrq k).mem := fun u k hu => by
    unfold State.raiseIrq
    split
    · exact hP _ _ _ (by decide) hu
    · exact hu
  have hppu : ∀ u : State, P u.mem → P u.ppuPhase.mem := fun u hu => by
    unfold State.ppuPhase
    split
    · exact hu
    · exact State.ppuStep_induct (fun u => P u.mem) (fun _ _ hu => hu) hraise u hu
  obtain ⟨-, ⟨-, rfl⟩ | ⟨-, u, hu, -, rfl⟩⟩ := step_cases h
  · exact hppu _ (hend _ _ hint)
  · refine hppu _ ?_
    have hum : P u.mem := by
      cases hu with
      | moved c hc hm =>
        have := hm.induct (fun u => P u.mem) (fun _ _ _ hu => hu) hw hint
        exact this
      | master b d c hd hc hm =>
        have := hm.induct (fun u => P u.mem) (fun _ _ _ hu => hu) hw hint
        exact this
      | halted => exact hint
      | stopped => exact hint
      | fatal op => exact hint
    unfold State.afterExec
    split
    · exact hum
    · obtain ⟨b, d, -, hb⟩ := u.eiRule_eq
      rw [hb]
      exact hend _ _ hum

end Sys2Proof.Machine
end

