-- ==== Sys2Proof/Tests/Slice0.lean ====
section
/-! SUPPORT. The model's own tests: the well-formedness smoke test, words decoded as the spec's encodings give them, one-step
vectors of spec/95_test_vectors.md (every expected value is taken from there or worked out by hand from the rule named), and
for every obligation with hypotheses a witness that meets them. -/

namespace Sys2Proof.Tests

set_option Elab.async false

open Sys2Proof Sys2Proof.Machine

/-! ## Helpers -/

/-- The registers after a cold boot without a boot ROM (R70). -/
def g0 : Regs := .boot false

/-- Bytes of the backing store set with no side effect, a RAM byte together with its echo (95_test_vectors.md section 0). -/
def put (cells : List (Nat × Byte)) (s : State) : State :=
  cells.foldl (fun s c => match echoAlias c.1 with
    | some e => (s.poke c.1 c.2).poke e c.2
    | none => s.poke c.1 c.2) s

/-- The start state with these registers, these bytes of memory, and code at PC. -/
def start (g : Regs) (cells : List (Nat × Byte)) (code : List Byte) : State :=
  (put cells { State.reset with regs := g }).placeBytes g.pc code

/-- The state after one step. -/
def after (s : State) : State :=
  match step s with
  | .next t => t
  | .fault _ => s
  | .refused _ => s

/-- The registers and the ticks after one step. -/
def vec (g : Regs) (cells : List (Nat × Byte)) (code : List Byte) : Regs × Nat :=
  let t := after (start g cells code)
  (t.regs, t.ticks)

/-- The byte of memory at `a` after one step. -/
def vecMem (g : Regs) (cells : List (Nat × Byte)) (code : List Byte) (a : Nat) : Byte := (after (start g cells code)).peek a

/-- The default parameters with a switchable-bank cartridge of `size` bytes and 4 RAM banks, its ROM holding in the first
byte of bank `b` the value `b`. -/
def bankParams (size : Nat) : Params :=
  { Config.params with
    cartKind := .switchable, romSize := size, ramBanks := 4,
    rom := (List.range (size / 16384)).filterMap fun b => if b = 0 then none else some (b * 16384, BitVec.ofNat 8 b) }

/-- Bus writes in order. -/
def writes (l : List (Word × Byte)) (s : State) : State := l.foldl (fun s c => s.memWrite c.1 c.2) s

/-! ## Well-formedness -/

theorem test_wf_refuses_prefix : (Instr.prefixCb 0x00).wf = false ∧ (Instr.prefixCb 0x7C).wf = false := by decide
theorem test_wf_accepts : Instr.nop.wf = true ∧ (Instr.ldBcD16 0x1234).wf = true ∧ (Instr.stop 0x00).wf = true := by decide

/-! ## Decoding: words written out from R148 and R150 -/

theorem test_decode_load8 :
    decode [0b01111000] = .ok .ldAB [] ∧ decode [0b01000110, 9] = .ok .ldBIndHl [9] ∧
      decode [0b01110001] = .ok .ldIndHlC [] ∧ decode [0b00110110, 0x99] = .ok (.ldIndHlD8 0x99) [] := by decide
theorem test_decode_load16 :
    decode [0b00110001, 0xFE, 0xFF] = .ok (.ldSpD16 0xFFFE) [] ∧ decode [0b00001000, 0x00, 0xC1] = .ok (.ldIndA16Sp 0xC100) [] ∧
      decode [0b11110101] = .ok .pushAf [] ∧ decode [0b11010001] = .ok .popDe [] := by decide
theorem test_decode_alu8 :
    decode [0b10001001] = .ok .adcAC [] ∧ decode [0b10111110] = .ok .cpIndHl [] ∧ decode [0b11100110, 0x3F] = .ok (.andD8 0x3F) [] ∧
      decode [0b00110101] = .ok .decIndHl [] ∧ decode [0b00100111] = .ok .daa [] := by decide
theorem test_decode_alu16 :
    decode [0b00011001] = .ok .addHlDe [] ∧ decode [0b00111011] = .ok .decSp [] ∧ decode [0b11101000, 0xFE] = .ok (.addSpE8 0xFE) [] := by
  decide
theorem test_decode_rotate :
    decode [0b00010111] = .ok .rla [] ∧ decode [0b11001011, 0b00101110] = .ok .cbSraIndHl [] ∧
      decode [0b11001011, 0b01111100] = .ok .cbBit7H [] ∧ decode [0b11001011, 0b10011010] = .ok .cbRes3D [] ∧
      decode [0b11001011, 0b11000111] = .ok .cbSet0A [] := by decide
theorem test_decode_control :
    decode [0b00101000, 0xFC] = .ok (.jrZE8 0xFC) [] ∧ decode [0b11010100, 0x00, 0x02] = .ok (.callNcA16 0x0200) [] ∧
      decode [0b11011000] = .ok .retC [] ∧ decode [0b11101111] = .ok .rst28 [] ∧ decode [0b11101001] = .ok .jpHl [] := by decide
theorem test_decode_system :
    decode [0b01110110] = .ok .halt [] ∧ decode [0b00010000, 0x00] = .ok (.stop 0x00) [] ∧ decode [0b11111011] = .ok .ei [] ∧
      decode [0b11010011] = .ok .illegalD3 [] := by decide
theorem test_decode_rejects_short_streams :
    decode [] = .rejected .emptyStream ∧ decode [0xCB] = .rejected (.truncated 0xCB) ∧ decode [0x01, 0x34] = .rejected (.truncated 0x01) ∧
      decode [0x10] = .rejected (.truncated 0x10) := by decide

/-! ## Every constructor's word, from spec/opcode_table.json's encodings (R148, R150) -/

/-- Every word of the list decodes to the instruction beside it, whatever follows. -/
def Decodes (rows : List (List Byte × Instr)) : Prop := ∀ p ∈ rows, decode (p.1 ++ [0x5A]) = .ok p.2 [0x5A]

theorem test_words_op_00 : Decodes (
    [([0b00000000], .nop), ([0b00000001, 0x34, 0x12], .ldBcD16 0x1234), ([0b00000010], .ldIndBcA), ([0b00000011],
      .incBc), ([0b00000100], .incB), ([0b00000101], .decB), ([0b00000110, 0x34], .ldBD8 0x34), ([0b00000111], .rlca),
      ([0b00001000, 0x34, 0x12], .ldIndA16Sp 0x1234), ([0b00001001], .addHlBc), ([0b00001010], .ldAIndBc), ([0b00001011],
      .decBc), ([0b00001100], .incC), ([0b00001101], .decC), ([0b00001110, 0x34], .ldCD8 0x34), ([0b00001111], .rrca)]) := by
  unfold Decodes; decide +kernel

theorem test_words_op_10 : Decodes (
    [([0b00010000, 0x34], .stop 0x34), ([0b00010001, 0x34, 0x12], .ldDeD16 0x1234), ([0b00010010], .ldIndDeA),
      ([0b00010011], .incDe), ([0b00010100], .incD), ([0b00010101], .decD), ([0b00010110, 0x34], .ldDD8 0x34),
      ([0b00010111], .rla), ([0b00011000, 0x34], .jrE8 0x34), ([0b00011001], .addHlDe), ([0b00011010], .ldAIndDe),
      ([0b00011011], .decDe), ([0b00011100], .incE), ([0b00011101], .decE), ([0b00011110, 0x34], .ldED8 0x34),
      ([0b00011111], .rra)]) := by
  unfold Decodes; decide +kernel

theorem test_words_op_20 : Decodes (
    [([0b00100000, 0x34], .jrNzE8 0x34), ([0b00100001, 0x34, 0x12], .ldHlD16 0x1234), ([0b00100010], .ldIndHlIncA),
      ([0b00100011], .incHl), ([0b00100100], .incH), ([0b00100101], .decH), ([0b00100110, 0x34], .ldHD8 0x34),
      ([0b00100111], .daa), ([0b00101000, 0x34], .jrZE8 0x34), ([0b00101001], .addHlHl), ([0b00101010], .ldAIndHlInc),
      ([0b00101011], .decHl), ([0b00101100], .incL), ([0b00101101], .decL), ([0b00101110, 0x34], .ldLD8 0x34),
      ([0b00101111], .cpl)]) := by
  unfold Decodes; decide +kernel

theorem test_words_op_30 : Decodes (
    [([0b00110000, 0x34], .jrNcE8 0x34), ([0b00110001, 0x34, 0x12], .ldSpD16 0x1234), ([0b00110010], .ldIndHlDecA),
      ([0b00110011], .incSp), ([0b00110100], .incIndHl), ([0b00110101], .decIndHl), ([0b00110110, 0x34], .ldIndHlD8 0x34),
      ([0b00110111], .scf), ([0b00111000, 0x34], .jrCE8 0x34), ([0b00111001], .addHlSp), ([0b00111010], .ldAIndHlDec),
      ([0b00111011], .decSp), ([0b00111100], .incA), ([0b00111101], .decA), ([0b00111110, 0x34], .ldAD8 0x34),
      ([0b00111111], .ccf)]) := by
  unfold Decodes; decide +kernel

theorem test_words_op_40 : Decodes (
    [([0b01000000], .ldBB), ([0b01000001], .ldBC), ([0b01000010], .ldBD), ([0b01000011], .ldBE), ([0b01000100], .ldBH),
      ([0b01000101], .ldBL), ([0b01000110], .ldBIndHl), ([0b01000111], .ldBA), ([0b01001000], .ldCB), ([0b01001001],
      .ldCC), ([0b01001010], .ldCD), ([0b01001011], .ldCE), ([0b01001100], .ldCH), ([0b01001101], .ldCL), ([0b01001110],
      .ldCIndHl), ([0b01001111], .ldCA)]) := by
  unfold Decodes; decide +kernel

theorem test_words_op_50 : Decodes (
    [([0b01010000], .ldDB), ([0b01010001], .ldDC), ([0b01010010], .ldDD), ([0b01010011], .ldDE), ([0b01010100], .ldDH),
      ([0b01010101], .ldDL), ([0b01010110], .ldDIndHl), ([0b01010111], .ldDA), ([0b01011000], .ldEB), ([0b01011001],
      .ldEC), ([0b01011010], .ldED), ([0b01011011], .ldEE), ([0b01011100], .ldEH), ([0b01011101], .ldEL), ([0b01011110],
      .ldEIndHl), ([0b01011111], .ldEA)]) := by
  unfold Decodes; decide +kernel

theorem test_words_op_60 : Decodes (
    [([0b01100000], .ldHB), ([0b01100001], .ldHC), ([0b01100010], .ldHD), ([0b01100011], .ldHE), ([0b01100100], .ldHH),
      ([0b01100101], .ldHL), ([0b01100110], .ldHIndHl), ([0b01100111], .ldHA), ([0b01101000], .ldLB), ([0b01101001],
      .ldLC), ([0b01101010], .ldLD), ([0b01101011], .ldLE), ([0b01101100], .ldLH), ([0b01101101], .ldLL), ([0b01101110],
      .ldLIndHl), ([0b01101111], .ldLA)]) := by
  unfold Decodes; decide +kernel

theorem test_words_op_70 : Decodes (
    [([0b01110000], .ldIndHlB), ([0b01110001], .ldIndHlC), ([0b01110010], .ldIndHlD), ([0b01110011], .ldIndHlE),
      ([0b01110100], .ldIndHlH), ([0b01110101], .ldIndHlL), ([0b01110110], .halt), ([0b01110111], .ldIndHlA),
      ([0b01111000], .ldAB), ([0b01111001], .ldAC), ([0b01111010], .ldAD), ([0b01111011], .ldAE), ([0b01111100], .ldAH),
      ([0b01111101], .ldAL), ([0b01111110], .ldAIndHl), ([0b01111111], .ldAA)]) := by
  unfold Decodes; decide +kernel

theorem test_words_op_80 : Decodes (
    [([0b10000000], .addAB), ([0b10000001], .addAC), ([0b10000010], .addAD), ([0b10000011], .addAE), ([0b10000100],
      .addAH), ([0b10000101], .addAL), ([0b10000110], .addAIndHl), ([0b10000111], .addAA), ([0b10001000], .adcAB),
      ([0b10001001], .adcAC), ([0b10001010], .adcAD), ([0b10001011], .adcAE), ([0b10001100], .adcAH), ([0b10001101],
      .adcAL), ([0b10001110], .adcAIndHl), ([0b10001111], .adcAA)]) := by
  unfold Decodes; decide +kernel

theorem test_words_op_90 : Decodes (
    [([0b10010000], .subB), ([0b10010001], .subC), ([0b10010010], .subD), ([0b10010011], .subE), ([0b10010100], .subH),
      ([0b10010101], .subL), ([0b10010110], .subIndHl), ([0b10010111], .subA), ([0b10011000], .sbcAB), ([0b10011001],
      .sbcAC), ([0b10011010], .sbcAD), ([0b10011011], .sbcAE), ([0b10011100], .sbcAH), ([0b10011101], .sbcAL),
      ([0b10011110], .sbcAIndHl), ([0b10011111], .sbcAA)]) := by
  unfold Decodes; decide +kernel

theorem test_words_op_a0 : Decodes (
    [([0b10100000], .andB), ([0b10100001], .andC), ([0b10100010], .andD), ([0b10100011], .andE), ([0b10100100], .andH),
      ([0b10100101], .andL), ([0b10100110], .andIndHl), ([0b10100111], .andA), ([0b10101000], .xorB), ([0b10101001],
      .xorC), ([0b10101010], .xorD), ([0b10101011], .xorE), ([0b10101100], .xorH), ([0b10101101], .xorL), ([0b10101110],
      .xorIndHl), ([0b10101111], .xorA)]) := by
  unfold Decodes; decide +kernel

theorem test_words_op_b0 : Decodes (
    [([0b10110000], .orB), ([0b10110001], .orC), ([0b10110010], .orD), ([0b10110011], .orE), ([0b10110100], .orH),
      ([0b10110101], .orL), ([0b10110110], .orIndHl), ([0b10110111], .orA), ([0b10111000], .cpB), ([0b10111001], .cpC),
      ([0b10111010], .cpD), ([0b10111011], .cpE), ([0b10111100], .cpH), ([0b10111101], .cpL), ([0b10111110], .cpIndHl),
      ([0b10111111], .cpA)]) := by
  unfold Decodes; decide +kernel

theorem test_words_op_c0 : Decodes (
    [([0b11000000], .retNz), ([0b11000001], .popBc), ([0b11000010, 0x34, 0x12], .jpNzA16 0x1234), ([0b11000011, 0x34,
      0x12], .jpA16 0x1234), ([0b11000100, 0x34, 0x12], .callNzA16 0x1234), ([0b11000101], .pushBc), ([0b11000110, 0x34],
      .addAD8 0x34), ([0b11000111], .rst00), ([0b11001000], .retZ), ([0b11001001], .ret), ([0b11001010, 0x34, 0x12],
      .jpZA16 0x1234), ([0b11001100, 0x34, 0x12], .callZA16 0x1234), ([0b11001101, 0x34, 0x12], .callA16 0x1234),
      ([0b11001110, 0x34], .adcAD8 0x34), ([0b11001111], .rst08)]) := by
  unfold Decodes; decide +kernel

theorem test_words_op_d0 : Decodes (
    [([0b11010000], .retNc), ([0b11010001], .popDe), ([0b11010010, 0x34, 0x12], .jpNcA16 0x1234), ([0b11010011],
      .illegalD3), ([0b11010100, 0x34, 0x12], .callNcA16 0x1234), ([0b11010101], .pushDe), ([0b11010110, 0x34], .subD8
      0x34), ([0b11010111], .rst10), ([0b11011000], .retC), ([0b11011001], .reti), ([0b11011010, 0x34, 0x12], .jpCA16
      0x1234), ([0b11011011], .illegalDB), ([0b11011100, 0x34, 0x12], .callCA16 0x1234), ([0b11011101], .illegalDD),
      ([0b11011110, 0x34], .sbcAD8 0x34), ([0b11011111], .rst18)]) := by
  unfold Decodes; decide +kernel

theorem test_words_op_e0 : Decodes (
    [([0b11100000, 0x34], .ldhIndA8A 0x34), ([0b11100001], .popHl), ([0b11100010], .ldIndCA), ([0b11100011],
      .illegalE3), ([0b11100100], .illegalE4), ([0b11100101], .pushHl), ([0b11100110, 0x34], .andD8 0x34), ([0b11100111],
      .rst20), ([0b11101000, 0x34], .addSpE8 0x34), ([0b11101001], .jpHl), ([0b11101010, 0x34, 0x12], .ldIndA16A 0x1234),
      ([0b11101011], .illegalEB), ([0b11101100], .illegalEC), ([0b11101101], .illegalED), ([0b11101110, 0x34], .xorD8
      0x34), ([0b11101111], .rst28)]) := by
  unfold Decodes; decide +kernel

theorem test_words_op_f0 : Decodes (
    [([0b11110000, 0x34], .ldhAIndA8 0x34), ([0b11110001], .popAf), ([0b11110010], .ldAIndC), ([0b11110011], .di),
      ([0b11110100], .illegalF4), ([0b11110101], .pushAf), ([0b11110110, 0x34], .orD8 0x34), ([0b11110111], .rst30),
      ([0b11111000, 0x34], .ldHlSpE8 0x34), ([0b11111001], .ldSpHl), ([0b11111010, 0x34, 0x12], .ldAIndA16 0x1234),
      ([0b11111011], .ei), ([0b11111100], .illegalFC), ([0b11111101], .illegalFD), ([0b11111110, 0x34], .cpD8 0x34),
      ([0b11111111], .rst38)]) := by
  unfold Decodes; decide +kernel

theorem test_words_cb_00 : Decodes (
    [([0b11001011, 0b00000000], .cbRlcB), ([0b11001011, 0b00000001], .cbRlcC), ([0b11001011, 0b00000010], .cbRlcD),
      ([0b11001011, 0b00000011], .cbRlcE), ([0b11001011, 0b00000100], .cbRlcH), ([0b11001011, 0b00000101], .cbRlcL),
      ([0b11001011, 0b00000110], .cbRlcIndHl), ([0b11001011, 0b00000111], .cbRlcA), ([0b11001011, 0b00001000], .cbRrcB),
      ([0b11001011, 0b00001001], .cbRrcC), ([0b11001011, 0b00001010], .cbRrcD), ([0b11001011, 0b00001011], .cbRrcE),
      ([0b11001011, 0b00001100], .cbRrcH), ([0b11001011, 0b00001101], .cbRrcL), ([0b11001011, 0b00001110], .cbRrcIndHl),
      ([0b11001011, 0b00001111], .cbRrcA)]) := by
  unfold Decodes; decide +kernel

theorem test_words_cb_10 : Decodes (
    [([0b11001011, 0b00010000], .cbRlB), ([0b11001011, 0b00010001], .cbRlC), ([0b11001011, 0b00010010], .cbRlD),
      ([0b11001011, 0b00010011], .cbRlE), ([0b11001011, 0b00010100], .cbRlH), ([0b11001011, 0b00010101], .cbRlL),
      ([0b11001011, 0b00010110], .cbRlIndHl), ([0b11001011, 0b00010111], .cbRlA), ([0b11001011, 0b00011000], .cbRrB),
      ([0b11001011, 0b00011001], .cbRrC), ([0b11001011, 0b00011010], .cbRrD), ([0b11001011, 0b00011011], .cbRrE),
      ([0b11001011, 0b00011100], .cbRrH), ([0b11001011, 0b00011101], .cbRrL), ([0b11001011, 0b00011110], .cbRrIndHl),
      ([0b11001011, 0b00011111], .cbRrA)]) := by
  unfold Decodes; decide +kernel

theorem test_words_cb_20 : Decodes (
    [([0b11001011, 0b00100000], .cbSlaB), ([0b11001011, 0b00100001], .cbSlaC), ([0b11001011, 0b00100010], .cbSlaD),
      ([0b11001011, 0b00100011], .cbSlaE), ([0b11001011, 0b00100100], .cbSlaH), ([0b11001011, 0b00100101], .cbSlaL),
      ([0b11001011, 0b00100110], .cbSlaIndHl), ([0b11001011, 0b00100111], .cbSlaA), ([0b11001011, 0b00101000], .cbSraB),
      ([0b11001011, 0b00101001], .cbSraC), ([0b11001011, 0b00101010], .cbSraD), ([0b11001011, 0b00101011], .cbSraE),
      ([0b11001011, 0b00101100], .cbSraH), ([0b11001011, 0b00101101], .cbSraL), ([0b11001011, 0b00101110], .cbSraIndHl),
      ([0b11001011, 0b00101111], .cbSraA)]) := by
  unfold Decodes; decide +kernel

theorem test_words_cb_30 : Decodes (
    [([0b11001011, 0b00110000], .cbSwapB), ([0b11001011, 0b00110001], .cbSwapC), ([0b11001011, 0b00110010], .cbSwapD),
      ([0b11001011, 0b00110011], .cbSwapE), ([0b11001011, 0b00110100], .cbSwapH), ([0b11001011, 0b00110101], .cbSwapL),
      ([0b11001011, 0b00110110], .cbSwapIndHl), ([0b11001011, 0b00110111], .cbSwapA), ([0b11001011, 0b00111000], .cbSrlB),
      ([0b11001011, 0b00111001], .cbSrlC), ([0b11001011, 0b00111010], .cbSrlD), ([0b11001011, 0b00111011], .cbSrlE),
      ([0b11001011, 0b00111100], .cbSrlH), ([0b11001011, 0b00111101], .cbSrlL), ([0b11001011, 0b00111110], .cbSrlIndHl),
      ([0b11001011, 0b00111111], .cbSrlA)]) := by
  unfold Decodes; decide +kernel

theorem test_words_cb_40 : Decodes (
    [([0b11001011, 0b01000000], .cbBit0B), ([0b11001011, 0b01000001], .cbBit0C), ([0b11001011, 0b01000010], .cbBit0D),
      ([0b11001011, 0b01000011], .cbBit0E), ([0b11001011, 0b01000100], .cbBit0H), ([0b11001011, 0b01000101], .cbBit0L),
      ([0b11001011, 0b01000110], .cbBit0IndHl), ([0b11001011, 0b01000111], .cbBit0A), ([0b11001011, 0b01001000],
      .cbBit1B), ([0b11001011, 0b01001001], .cbBit1C), ([0b11001011, 0b01001010], .cbBit1D), ([0b11001011, 0b01001011],
      .cbBit1E), ([0b11001011, 0b01001100], .cbBit1H), ([0b11001011, 0b01001101], .cbBit1L), ([0b11001011, 0b01001110],
      .cbBit1IndHl), ([0b11001011, 0b01001111], .cbBit1A)]) := by
  unfold Decodes; decide +kernel

theorem test_words_cb_50 : Decodes (
    [([0b11001011, 0b01010000], .cbBit2B), ([0b11001011, 0b01010001], .cbBit2C), ([0b11001011, 0b01010010], .cbBit2D),
      ([0b11001011, 0b01010011], .cbBit2E), ([0b11001011, 0b01010100], .cbBit2H), ([0b11001011, 0b01010101], .cbBit2L),
      ([0b11001011, 0b01010110], .cbBit2IndHl), ([0b11001011, 0b01010111], .cbBit2A), ([0b11001011, 0b01011000],
      .cbBit3B), ([0b11001011, 0b01011001], .cbBit3C), ([0b11001011, 0b01011010], .cbBit3D), ([0b11001011, 0b01011011],
      .cbBit3E), ([0b11001011, 0b01011100], .cbBit3H), ([0b11001011, 0b01011101], .cbBit3L), ([0b11001011, 0b01011110],
      .cbBit3IndHl), ([0b11001011, 0b01011111], .cbBit3A)]) := by
  unfold Decodes; decide +kernel

theorem test_words_cb_60 : Decodes (
    [([0b11001011, 0b01100000], .cbBit4B), ([0b11001011, 0b01100001], .cbBit4C), ([0b11001011, 0b01100010], .cbBit4D),
      ([0b11001011, 0b01100011], .cbBit4E), ([0b11001011, 0b01100100], .cbBit4H), ([0b11001011, 0b01100101], .cbBit4L),
      ([0b11001011, 0b01100110], .cbBit4IndHl), ([0b11001011, 0b01100111], .cbBit4A), ([0b11001011, 0b01101000],
      .cbBit5B), ([0b11001011, 0b01101001], .cbBit5C), ([0b11001011, 0b01101010], .cbBit5D), ([0b11001011, 0b01101011],
      .cbBit5E), ([0b11001011, 0b01101100], .cbBit5H), ([0b11001011, 0b01101101], .cbBit5L), ([0b11001011, 0b01101110],
      .cbBit5IndHl), ([0b11001011, 0b01101111], .cbBit5A)]) := by
  unfold Decodes; decide +kernel

theorem test_words_cb_70 : Decodes (
    [([0b11001011, 0b01110000], .cbBit6B), ([0b11001011, 0b01110001], .cbBit6C), ([0b11001011, 0b01110010], .cbBit6D),
      ([0b11001011, 0b01110011], .cbBit6E), ([0b11001011, 0b01110100], .cbBit6H), ([0b11001011, 0b01110101], .cbBit6L),
      ([0b11001011, 0b01110110], .cbBit6IndHl), ([0b11001011, 0b01110111], .cbBit6A), ([0b11001011, 0b01111000],
      .cbBit7B), ([0b11001011, 0b01111001], .cbBit7C), ([0b11001011, 0b01111010], .cbBit7D), ([0b11001011, 0b01111011],
      .cbBit7E), ([0b11001011, 0b01111100], .cbBit7H), ([0b11001011, 0b01111101], .cbBit7L), ([0b11001011, 0b01111110],
      .cbBit7IndHl), ([0b11001011, 0b01111111], .cbBit7A)]) := by
  unfold Decodes; decide +kernel

theorem test_words_cb_80 : Decodes (
    [([0b11001011, 0b10000000], .cbRes0B), ([0b11001011, 0b10000001], .cbRes0C), ([0b11001011, 0b10000010], .cbRes0D),
      ([0b11001011, 0b10000011], .cbRes0E), ([0b11001011, 0b10000100], .cbRes0H), ([0b11001011, 0b10000101], .cbRes0L),
      ([0b11001011, 0b10000110], .cbRes0IndHl), ([0b11001011, 0b10000111], .cbRes0A), ([0b11001011, 0b10001000],
      .cbRes1B), ([0b11001011, 0b10001001], .cbRes1C), ([0b11001011, 0b10001010], .cbRes1D), ([0b11001011, 0b10001011],
      .cbRes1E), ([0b11001011, 0b10001100], .cbRes1H), ([0b11001011, 0b10001101], .cbRes1L), ([0b11001011, 0b10001110],
      .cbRes1IndHl), ([0b11001011, 0b10001111], .cbRes1A)]) := by
  unfold Decodes; decide +kernel

theorem test_words_cb_90 : Decodes (
    [([0b11001011, 0b10010000], .cbRes2B), ([0b11001011, 0b10010001], .cbRes2C), ([0b11001011, 0b10010010], .cbRes2D),
      ([0b11001011, 0b10010011], .cbRes2E), ([0b11001011, 0b10010100], .cbRes2H), ([0b11001011, 0b10010101], .cbRes2L),
      ([0b11001011, 0b10010110], .cbRes2IndHl), ([0b11001011, 0b10010111], .cbRes2A), ([0b11001011, 0b10011000],
      .cbRes3B), ([0b11001011, 0b10011001], .cbRes3C), ([0b11001011, 0b10011010], .cbRes3D), ([0b11001011, 0b10011011],
      .cbRes3E), ([0b11001011, 0b10011100], .cbRes3H), ([0b11001011, 0b10011101], .cbRes3L), ([0b11001011, 0b10011110],
      .cbRes3IndHl), ([0b11001011, 0b10011111], .cbRes3A)]) := by
  unfold Decodes; decide +kernel

theorem test_words_cb_a0 : Decodes (
    [([0b11001011, 0b10100000], .cbRes4B), ([0b11001011, 0b10100001], .cbRes4C), ([0b11001011, 0b10100010], .cbRes4D),
      ([0b11001011, 0b10100011], .cbRes4E), ([0b11001011, 0b10100100], .cbRes4H), ([0b11001011, 0b10100101], .cbRes4L),
      ([0b11001011, 0b10100110], .cbRes4IndHl), ([0b11001011, 0b10100111], .cbRes4A), ([0b11001011, 0b10101000],
      .cbRes5B), ([0b11001011, 0b10101001], .cbRes5C), ([0b11001011, 0b10101010], .cbRes5D), ([0b11001011, 0b10101011],
      .cbRes5E), ([0b11001011, 0b10101100], .cbRes5H), ([0b11001011, 0b10101101], .cbRes5L), ([0b11001011, 0b10101110],
      .cbRes5IndHl), ([0b11001011, 0b10101111], .cbRes5A)]) := by
  unfold Decodes; decide +kernel

theorem test_words_cb_b0 : Decodes (
    [([0b11001011, 0b10110000], .cbRes6B), ([0b11001011, 0b10110001], .cbRes6C), ([0b11001011, 0b10110010], .cbRes6D),
      ([0b11001011, 0b10110011], .cbRes6E), ([0b11001011, 0b10110100], .cbRes6H), ([0b11001011, 0b10110101], .cbRes6L),
      ([0b11001011, 0b10110110], .cbRes6IndHl), ([0b11001011, 0b10110111], .cbRes6A), ([0b11001011, 0b10111000],
      .cbRes7B), ([0b11001011, 0b10111001], .cbRes7C), ([0b11001011, 0b10111010], .cbRes7D), ([0b11001011, 0b10111011],
      .cbRes7E), ([0b11001011, 0b10111100], .cbRes7H), ([0b11001011, 0b10111101], .cbRes7L), ([0b11001011, 0b10111110],
      .cbRes7IndHl), ([0b11001011, 0b10111111], .cbRes7A)]) := by
  unfold Decodes; decide +kernel

theorem test_words_cb_c0 : Decodes (
    [([0b11001011, 0b11000000], .cbSet0B), ([0b11001011, 0b11000001], .cbSet0C), ([0b11001011, 0b11000010], .cbSet0D),
      ([0b11001011, 0b11000011], .cbSet0E), ([0b11001011, 0b11000100], .cbSet0H), ([0b11001011, 0b11000101], .cbSet0L),
      ([0b11001011, 0b11000110], .cbSet0IndHl), ([0b11001011, 0b11000111], .cbSet0A), ([0b11001011, 0b11001000],
      .cbSet1B), ([0b11001011, 0b11001001], .cbSet1C), ([0b11001011, 0b11001010], .cbSet1D), ([0b11001011, 0b11001011],
      .cbSet1E), ([0b11001011, 0b11001100], .cbSet1H), ([0b11001011, 0b11001101], .cbSet1L), ([0b11001011, 0b11001110],
      .cbSet1IndHl), ([0b11001011, 0b11001111], .cbSet1A)]) := by
  unfold Decodes; decide +kernel

theorem test_words_cb_d0 : Decodes (
    [([0b11001011, 0b11010000], .cbSet2B), ([0b11001011, 0b11010001], .cbSet2C), ([0b11001011, 0b11010010], .cbSet2D),
      ([0b11001011, 0b11010011], .cbSet2E), ([0b11001011, 0b11010100], .cbSet2H), ([0b11001011, 0b11010101], .cbSet2L),
      ([0b11001011, 0b11010110], .cbSet2IndHl), ([0b11001011, 0b11010111], .cbSet2A), ([0b11001011, 0b11011000],
      .cbSet3B), ([0b11001011, 0b11011001], .cbSet3C), ([0b11001011, 0b11011010], .cbSet3D), ([0b11001011, 0b11011011],
      .cbSet3E), ([0b11001011, 0b11011100], .cbSet3H), ([0b11001011, 0b11011101], .cbSet3L), ([0b11001011, 0b11011110],
      .cbSet3IndHl), ([0b11001011, 0b11011111], .cbSet3A)]) := by
  unfold Decodes; decide +kernel

theorem test_words_cb_e0 : Decodes (
    [([0b11001011, 0b11100000], .cbSet4B), ([0b11001011, 0b11100001], .cbSet4C), ([0b11001011, 0b11100010], .cbSet4D),
      ([0b11001011, 0b11100011], .cbSet4E), ([0b11001011, 0b11100100], .cbSet4H), ([0b11001011, 0b11100101], .cbSet4L),
      ([0b11001011, 0b11100110], .cbSet4IndHl), ([0b11001011, 0b11100111], .cbSet4A), ([0b11001011, 0b11101000],
      .cbSet5B), ([0b11001011, 0b11101001], .cbSet5C), ([0b11001011, 0b11101010], .cbSet5D), ([0b11001011, 0b11101011],
      .cbSet5E), ([0b11001011, 0b11101100], .cbSet5H), ([0b11001011, 0b11101101], .cbSet5L), ([0b11001011, 0b11101110],
      .cbSet5IndHl), ([0b11001011, 0b11101111], .cbSet5A)]) := by
  unfold Decodes; decide +kernel

theorem test_words_cb_f0 : Decodes (
    [([0b11001011, 0b11110000], .cbSet6B), ([0b11001011, 0b11110001], .cbSet6C), ([0b11001011, 0b11110010], .cbSet6D),
      ([0b11001011, 0b11110011], .cbSet6E), ([0b11001011, 0b11110100], .cbSet6H), ([0b11001011, 0b11110101], .cbSet6L),
      ([0b11001011, 0b11110110], .cbSet6IndHl), ([0b11001011, 0b11110111], .cbSet6A), ([0b11001011, 0b11111000],
      .cbSet7B), ([0b11001011, 0b11111001], .cbSet7C), ([0b11001011, 0b11111010], .cbSet7D), ([0b11001011, 0b11111011],
      .cbSet7E), ([0b11001011, 0b11111100], .cbSet7H), ([0b11001011, 0b11111101], .cbSet7L), ([0b11001011, 0b11111110],
      .cbSet7IndHl), ([0b11001011, 0b11111111], .cbSet7A)]) := by
  unfold Decodes; decide +kernel

/-! ## Table words -/

theorem test_table_words :
    decodeTableWord 8 0x00 = some .nop ∧ decodeTableWord 24 0x123401 = some (.ldBcD16 0x1234) ∧
      decodeTableWord 8 0x01 = some (.ldBcD16 0) ∧ decodeTableWord 16 0xCB7C = some .cbBit7H ∧
      decodeTableWord 8 0xD3 = some .illegalD3 := by decide
theorem test_withFetchWord_runs :
    (after (State.reset.withFetchWord 16 0x4206)).regs = { g0 with b := 0x42, pc := 0x0102 } ∧
      (after (State.reset.withFetchWord 16 0xCB37)).regs = { g0 with a := 0x10, f := 0x00, pc := 0x0102 } := by decide

/-! ## Loads and stores (95_test_vectors.md section 2) -/

theorem test_ld_imm_reg :
    vec g0 [] [0x06, 0x42] = ({ g0 with b := 0x42, pc := 0x0102 }, 8) ∧
      vec { g0 with a := 0x9C } [] [0x57] = ({ g0 with a := 0x9C, d := 0x9C, pc := 0x0101 }, 4) := by decide
theorem test_ld_pair_imm : vec g0 [] [0x01, 0x34, 0x12] = ({ g0 with b := 0x12, c := 0x34, pc := 0x0103 }, 12) := by decide
theorem test_ld_hl_imm_echo :
    vecMem { g0 with h := 0xC0, l := 0x00 } [] [0x36, 0x99] 0xC000 = 0x99 ∧
      vecMem { g0 with h := 0xC0, l := 0x00 } [] [0x36, 0x99] 0xE000 = 0x99 := by decide
theorem test_ld_a_hli :
    vec { g0 with h := 0xC0, l := 0x00 } [(0xC000, 0x5A)] [0x2A] =
      ({ g0 with a := 0x5A, h := 0xC0, l := 0x01, pc := 0x0101 }, 8) := by decide
theorem test_ld_hli_a_wraps :
    vec { g0 with a := 0x1F, h := 0xFF, l := 0xFF } [] [0x22] = ({ g0 with a := 0x1F, h := 0, l := 0, pc := 0x0101 }, 8) ∧
      vecMem { g0 with a := 0x1F, h := 0xFF, l := 0xFF } [] [0x22] 0xFFFF = 0x1F := by decide
theorem test_ld_hld_a :
    vec { g0 with a := 0x77, h := 0xC0, l := 0x00 } [] [0x32] =
      ({ g0 with a := 0x77, h := 0xBF, l := 0xFF, pc := 0x0101 }, 8) := by decide
theorem test_ld_a_de_echo :
    vec { g0 with d := 0xE1, e := 0x23 } [(0xC123, 0x44)] [0x1A] =
      ({ g0 with a := 0x44, d := 0xE1, e := 0x23, pc := 0x0101 }, 8) := by decide
theorem test_ld_a16_sp :
    vecMem { g0 with sp := 0xFFF8 } [] [0x08, 0x00, 0xC1] 0xC100 = 0xF8 ∧
      vecMem { g0 with sp := 0xFFF8 } [] [0x08, 0x00, 0xC1] 0xC101 = 0xFF := by decide
theorem test_ld_a_a16 : vec g0 [] [0xFA, 0x04, 0x01, 0x00, 0x5E] = ({ g0 with a := 0x5E, pc := 0x0103 }, 16) := by decide
theorem test_ldh :
    vecMem { g0 with a := 0x66 } [] [0xE0, 0x80] 0xFF80 = 0x66 ∧ vec g0 [] [0xF0, 0x44] = ({ g0 with a := 0x00, pc := 0x0102 }, 12) := by
  decide
theorem test_ld_a_c : vec { g0 with c := 0x47 } [] [0xF2] = ({ g0 with a := 0xFC, c := 0x47, pc := 0x0101 }, 8) := by decide
theorem test_push :
    vec { g0 with b := 0x12, c := 0x34 } [] [0xC5] = ({ g0 with b := 0x12, c := 0x34, sp := 0xFFFC, pc := 0x0101 }, 16) ∧
      vecMem { g0 with b := 0x12, c := 0x34 } [] [0xC5] 0xFFFD = 0x12 ∧
      vecMem { g0 with b := 0x12, c := 0x34 } [] [0xC5] 0xFFFC = 0x34 := by decide
theorem test_pop :
    vec { g0 with sp := 0xC000 } [(0xC000, 0xFF), (0xC001, 0xFF)] [0xF1] =
        ({ g0 with a := 0xFF, f := 0xF0, sp := 0xC002, pc := 0x0101 }, 12) ∧
      vec g0 [(0xFFFE, 0x34), (0xFFFF, 0x12)] [0xD1] = ({ g0 with d := 0x12, e := 0x34, sp := 0x0000, pc := 0x0101 }, 12) := by decide

/-! ## 8-bit ALU (section 3) -/

theorem test_add_reg :
    vec { g0 with a := 0x3A, b := 0xC6, f := 0 } [] [0x80] = ({ g0 with a := 0x00, b := 0xC6, f := 0xB0, pc := 0x0101 }, 4) ∧
      vec { g0 with a := 0x0F, b := 0x01, f := 0 } [] [0x80] = ({ g0 with a := 0x10, b := 0x01, f := 0x20, pc := 0x0101 }, 4) := by
  decide
theorem test_add_self : vec { g0 with a := 0x80, f := 0 } [] [0x87] = ({ g0 with a := 0x00, f := 0x90, pc := 0x0101 }, 4) := by decide
theorem test_add_mem :
    vec { g0 with a := 0xFF, h := 0xC0, l := 0x10, f := 0 } [(0xC010, 0x01)] [0x86] =
      ({ g0 with a := 0x00, h := 0xC0, l := 0x10, f := 0xB0, pc := 0x0101 }, 8) := by decide
theorem test_adc :
    vec { g0 with a := 0xE1, f := 0x10 } [] [0xCE, 0x0F] = ({ g0 with a := 0xF1, f := 0x20, pc := 0x0102 }, 8) ∧
      vec { g0 with a := 0x00, f := 0x10 } [] [0xCE, 0xFF] = ({ g0 with a := 0x00, f := 0xB0, pc := 0x0102 }, 8) := by decide
theorem test_sub :
    vec { g0 with a := 0x3E, f := 0 } [] [0xD6, 0x0F] = ({ g0 with a := 0x2F, f := 0x60, pc := 0x0102 }, 8) ∧
      vec { g0 with a := 0x3E, f := 0 } [] [0xD6, 0x40] = ({ g0 with a := 0xFE, f := 0x50, pc := 0x0102 }, 8) := by decide
theorem test_sbc :
    vec { g0 with a := 0x3B, f := 0x10 } [] [0xDE, 0x4F] = ({ g0 with a := 0xEB, f := 0x70, pc := 0x0102 }, 8) ∧
      vec { g0 with a := 0x10, f := 0x10 } [] [0xDE, 0x0F] = ({ g0 with a := 0x00, f := 0xE0, pc := 0x0102 }, 8) := by decide
theorem test_and : vec { g0 with a := 0x5A, f := 0x10 } [] [0xE6, 0x3F] = ({ g0 with a := 0x1A, f := 0x20, pc := 0x0102 }, 8) := by decide
theorem test_xor : vec { g0 with a := 0xFF, f := 0x70 } [] [0xAF] = ({ g0 with a := 0x00, f := 0x80, pc := 0x0101 }, 4) := by decide
theorem test_or : vec { g0 with a := 0x5A, f := 0xF0 } [] [0xF6, 0x03] = ({ g0 with a := 0x5B, f := 0x00, pc := 0x0102 }, 8) := by decide
theorem test_cp :
    vec { g0 with a := 0x3C, f := 0 } [] [0xFE, 0x2F] = ({ g0 with a := 0x3C, f := 0x60, pc := 0x0102 }, 8) ∧
      vec { g0 with a := 0x3C, f := 0 } [] [0xFE, 0x40] = ({ g0 with a := 0x3C, f := 0x50, pc := 0x0102 }, 8) := by decide
theorem test_inc_dec :
    vec { g0 with a := 0xFF, f := 0x10 } [] [0x3C] = ({ g0 with a := 0x00, f := 0xB0, pc := 0x0101 }, 4) ∧
      vec { g0 with c := 0x10, f := 0 } [] [0x0D] = ({ g0 with c := 0x0F, f := 0x60, pc := 0x0101 }, 4) := by decide
theorem test_inc_mem :
    vec { g0 with h := 0xC0, l := 0x10, f := 0 } [(0xC010, 0xFF)] [0x34] =
        ({ g0 with h := 0xC0, l := 0x10, f := 0xA0, pc := 0x0101 }, 12) ∧
      vecMem { g0 with h := 0xC0, l := 0x10, f := 0 } [(0xC010, 0xFF)] [0x34] 0xE010 = 0x00 := by decide
theorem test_daa_add :
    vec { g0 with a := 0x9A, f := 0x00 } [] [0x27] = ({ g0 with a := 0x00, f := 0x90, pc := 0x0101 }, 4) ∧
      vec { g0 with a := 0x20, f := 0x10 } [] [0x27] = ({ g0 with a := 0x80, f := 0x10, pc := 0x0101 }, 4) := by decide
theorem test_daa_sub :
    vec { g0 with a := 0xFF, f := 0x70 } [] [0x27] = ({ g0 with a := 0x99, f := 0x50, pc := 0x0101 }, 4) ∧
      vec { g0 with a := 0x0F, f := 0x60 } [] [0x27] = ({ g0 with a := 0x09, f := 0x40, pc := 0x0101 }, 4) := by decide
theorem test_cpl_scf_ccf :
    vec { g0 with a := 0x35, f := 0 } [] [0x2F] = ({ g0 with a := 0xCA, f := 0x60, pc := 0x0101 }, 4) ∧
      vec { g0 with f := 0xE0 } [] [0x37] = ({ g0 with f := 0x90, pc := 0x0101 }, 4) ∧
      vec { g0 with f := 0x60 } [] [0x3F] = ({ g0 with f := 0x10, pc := 0x0101 }, 4) := by decide

/-! ## 16-bit ALU (section 4) -/

theorem test_add_hl :
    vec { g0 with h := 0x8A, l := 0x23, b := 0x06, c := 0x05, f := 0x80 } [] [0x09] =
        ({ g0 with h := 0x90, l := 0x28, b := 0x06, c := 0x05, f := 0xA0, pc := 0x0101 }, 8) ∧
      vec { g0 with h := 0xFF, l := 0xFF, d := 0x00, e := 0x01, f := 0x40 } [] [0x19] =
        ({ g0 with h := 0x00, l := 0x00, d := 0x00, e := 0x01, f := 0x30, pc := 0x0101 }, 8) := by decide
theorem test_inc_dec_pair :
    vec { g0 with b := 0xFF, c := 0xFF } [] [0x03] = ({ g0 with b := 0x00, c := 0x00, pc := 0x0101 }, 8) ∧
      vec { g0 with d := 0x00, e := 0x00, f := 0xF0 } [] [0x1B] = ({ g0 with d := 0xFF, e := 0xFF, f := 0xF0, pc := 0x0101 }, 8) := by
  decide
theorem test_add_sp :
    vec { g0 with sp := 0xFFF8, f := 0xC0 } [] [0xE8, 0x08] = ({ g0 with sp := 0x0000, f := 0x30, pc := 0x0102 }, 16) ∧
      vec { g0 with sp := 0x0005, f := 0 } [] [0xE8, 0xFE] = ({ g0 with sp := 0x0003, f := 0x30, pc := 0x0102 }, 16) := by decide
theorem test_ld_hl_sp :
    vec { g0 with sp := 0x1000, f := 0 } [] [0xF8, 0x80] = ({ g0 with sp := 0x1000, h := 0x0F, l := 0x80, f := 0, pc := 0x0102 }, 12) := by
  decide

/-! ## Rotates, shifts and bits (section 5) -/

theorem test_rotate_a :
    vec { g0 with a := 0x85, f := 0 } [] [0x07] = ({ g0 with a := 0x0B, f := 0x10, pc := 0x0101 }, 4) ∧
      vec { g0 with a := 0x3B, f := 0 } [] [0x0F] = ({ g0 with a := 0x9D, f := 0x10, pc := 0x0101 }, 4) ∧
      vec { g0 with a := 0x95, f := 0x10 } [] [0x17] = ({ g0 with a := 0x2B, f := 0x10, pc := 0x0101 }, 4) ∧
      vec { g0 with a := 0x81, f := 0 } [] [0x1F] = ({ g0 with a := 0x40, f := 0x10, pc := 0x0101 }, 4) := by decide
theorem test_cb_rotates :
    vec { g0 with b := 0x00, f := 0 } [] [0xCB, 0x00] = ({ g0 with b := 0x00, f := 0x80, pc := 0x0102 }, 8) ∧
      vec { g0 with c := 0x01, f := 0 } [] [0xCB, 0x09] = ({ g0 with c := 0x80, f := 0x10, pc := 0x0102 }, 8) ∧
      vec { g0 with a := 0x80, f := 0 } [] [0xCB, 0x17] = ({ g0 with a := 0x00, f := 0x90, pc := 0x0102 }, 8) ∧
      vec { g0 with a := 0x01, f := 0x10 } [] [0xCB, 0x1F] = ({ g0 with a := 0x80, f := 0x10, pc := 0x0102 }, 8) := by decide
theorem test_cb_shifts :
    vec { g0 with b := 0x80, f := 0 } [] [0xCB, 0x20] = ({ g0 with b := 0x00, f := 0x90, pc := 0x0102 }, 8) ∧
      vec { g0 with a := 0x8A, f := 0 } [] [0xCB, 0x2F] = ({ g0 with a := 0xC5, f := 0x00, pc := 0x0102 }, 8) ∧
      vec { g0 with a := 0xFF, f := 0 } [] [0xCB, 0x3F] = ({ g0 with a := 0x7F, f := 0x10, pc := 0x0102 }, 8) ∧
      vec { g0 with a := 0xF0, f := 0x10 } [] [0xCB, 0x37] = ({ g0 with a := 0x0F, f := 0x00, pc := 0x0102 }, 8) := by decide
theorem test_cb_mem :
    vec { g0 with h := 0xC0, l := 0, f := 0 } [(0xC000, 0x12)] [0xCB, 0x36] = ({ g0 with h := 0xC0, l := 0, f := 0, pc := 0x0102 }, 16) ∧
      vecMem { g0 with h := 0xC0, l := 0, f := 0 } [(0xC000, 0x12)] [0xCB, 0x36] 0xC000 = 0x21 := by decide
theorem test_bit :
    vec { g0 with h := 0x80, f := 0x10 } [] [0xCB, 0x7C] = ({ g0 with h := 0x80, f := 0x30, pc := 0x0102 }, 8) ∧
      vec { g0 with h := 0xC0, l := 0, f := 0 } [(0xC000, 0xFE)] [0xCB, 0x46] =
        ({ g0 with h := 0xC0, l := 0, f := 0xA0, pc := 0x0102 }, 12) := by decide
theorem test_set_res :
    vec { g0 with b := 0x00 } [] [0xCB, 0xD8] = ({ g0 with b := 0x08, pc := 0x0102 }, 8) ∧
      vec { g0 with a := 0x80 } [] [0xCB, 0xBF] = ({ g0 with a := 0x00, pc := 0x0102 }, 8) ∧
      vecMem { g0 with h := 0xC0, l := 0 } [(0xC000, 0xFF)] [0xCB, 0x86] 0xC000 = 0xFE := by decide

/-! ## Control transfer (section 6) -/

theorem test_jr :
    vec g0 [] [0x18, 0xFE] = ({ g0 with pc := 0x0100 }, 12) ∧ vec { g0 with f := 0x80 } [] [0x20, 0x05] = ({ g0 with f := 0x80, pc := 0x0102 }, 8) ∧
      vec { g0 with f := 0x10 } [] [0x38, 0x80] = ({ g0 with f := 0x10, pc := 0x0082 }, 12) := by decide
theorem test_jp :
    vec g0 [] [0xC3, 0x50, 0x01] = ({ g0 with pc := 0x0150 }, 16) ∧
      vec { g0 with f := 0 } [] [0xCA, 0x00, 0x02] = ({ g0 with f := 0, pc := 0x0103 }, 12) ∧
      vec { g0 with h := 0x40, l := 0 } [] [0xE9] = ({ g0 with h := 0x40, l := 0, pc := 0x4000 }, 4) := by decide
theorem test_call :
    vec g0 [] [0xCD, 0x00, 0x02] = ({ g0 with pc := 0x0200, sp := 0xFFFC }, 24) ∧ vecMem g0 [] [0xCD, 0x00, 0x02] 0xFFFD = 0x01 ∧
      vecMem g0 [] [0xCD, 0x00, 0x02] 0xFFFC = 0x03 := by decide
theorem test_call_not_taken :
    vec { g0 with f := 0x10 } [] [0xD4, 0x00, 0x02] = ({ g0 with f := 0x10, pc := 0x0103 }, 12) := by decide
theorem test_ret :
    vec { g0 with sp := 0xFFFC, f := 0 } [(0xFFFC, 0x53), (0xFFFD, 0x01)] [0xC0] = ({ g0 with f := 0, pc := 0x0153 }, 20) ∧
      vec { g0 with sp := 0xFFFC, f := 0x80 } [(0xFFFC, 0x53), (0xFFFD, 0x01)] [0xC0] =
        ({ g0 with sp := 0xFFFC, f := 0x80, pc := 0x0101 }, 8) := by decide
theorem test_reti :
    let t := after (start { g0 with sp := 0xFFFC } [(0xFFFC, 0x53), (0xFFFD, 0x01)] [0xD9])
    t.regs = { g0 with pc := 0x0153 } ∧ t.ime = true ∧ t.ticks = 16 := by decide
theorem test_rst :
    vec g0 [] [0xFF] = ({ g0 with pc := 0x0038, sp := 0xFFFC }, 16) ∧ vecMem g0 [] [0xFF] 0xFFFC = 0x01 := by decide

/-! ## System instructions, interrupts, the timer (section 7) -/

/-- The vblank source asks, nothing enabled (section 7.1). -/
def ei1 : State := after (start g0 [(0xFFFF, 0x01), (0xFF0F, 0x01)] [0xFB])

theorem test_ei_delays : ei1.ime = false ∧ ei1.eiDelay = 1 ∧ (after ei1).ime = true ∧ (after ei1).eiDelay = 0 := by decide
theorem test_di : let t := after { start g0 [] [0xF3] with eiDelay := 1 }; t.ime = false ∧ t.eiDelay = 0 := by decide
theorem test_interrupt_entry :
    let t := after { start g0 [(0xFFFF, 0x05), (0xFF0F, 0x05)] [] with ime := true }
    t.regs.pc = 0x0041 ∧ t.regs.sp = 0xFFFC ∧ t.peek 0xFFFD = 0x01 ∧ t.peek 0xFFFC = 0x00 ∧ t.peek 0xFF0F = 0x04 ∧ t.ime = false ∧
      t.ticks = 24 := by decide
theorem test_interrupt_priority :
    let t := after { start g0 [(0xFFFF, 0x1E), (0xFF0F, 0x18)] [] with ime := true }
    t.regs.pc = 0x0059 ∧ t.peek 0xFF0F = 0x10 := by decide
theorem test_interrupt_masked :
    let t := after { start g0 [(0xFF0F, 0x1F)] [] with ime := true }
    t.regs.pc = 0x0101 ∧ t.peek 0xFF0F = 0x1F ∧ t.ticks = 4 := by decide
theorem test_halt_idles_then_wakes :
    let h := after (start g0 [(0xFFFF, 0x04)] [0x76, 0x3C])
    let i := after h
    let w := after (i.poke 0xFF0F 0x04)
    h.halted = true ∧ i.halted = true ∧ i.regs.pc = 0x0101 ∧ i.ticks = 8 ∧ w.halted = false ∧ w.regs.a = 0x02 ∧ w.peek 0xFF0F = 0x04 := by
  decide
theorem test_stop_ends_by_key :
    let p := after (start g0 [] [0x10, 0x00, 0x3C])
    let w := after (after p).keyPress
    p.stopped = true ∧ p.regs.pc = 0x0102 ∧ (after p).ticks = 8 ∧ w.regs.a = 0x02 ∧ w.ticks = 12 ∧ w.peek 0xFF0F = 0x00 := by decide
theorem test_illegal_is_fatal :
    let t := after (start g0 [] [0xD3])
    t.fatal = some { opcode := 0xD3, steps := 0 } ∧ t.regs.pc = 0x0101 ∧ t.ticks = 0 ∧ t.steps = 0 ∧
      step t = .fault (.fatalStopped 0xD3 0) := by
  refine ⟨by decide, by decide, by decide, by decide, rfl⟩
theorem test_timer_overflow_reloads :
    let s := put [(0xFF07, 0x05), (0xFF06, 0xAB), (0xFFFF, 0x04)] State.reset
    (s.advanceTimers 4092).peek 0xFF05 = 0xFF ∧ (s.advanceTimers 4092).peek 0xFF0F = 0x00 ∧ (s.advanceTimers 4092).peek 0xFF04 = 0x0F ∧
      (s.advanceTimers 4096).peek 0xFF05 = 0xAB ∧ (s.advanceTimers 4096).peek 0xFF0F = 0x04 ∧
      (s.advanceTimers 4096).peek 0xFF04 = 0x10 := by decide +kernel
theorem test_timer_disabled_freezes :
    ((put [(0xFF07, 0x01), (0xFF05, 0x80)] State.reset).advanceTimers 2048).peek 0xFF05 = 0x80 := by decide
theorem test_div_write_clears :
    let s := State.reset.advanceTimers 508
    s.peek 0xFF04 = 0x01 ∧ s.divCount = 252 ∧ (s.memWrite 0xFF04 0x5A).peek 0xFF04 = 0x00 ∧ (s.memWrite 0xFF04 0x5A).divCount = 0 := by
  decide

/-! ## Memory map (section 8) -/

/-- A 1 MiB cartridge (section 8.1). -/
def bank0 : State := .coldBoot (bankParams 1048576)

theorem test_rom_banks :
    bank0.memRead 0x4000 = 0x01 ∧ (writes [(0x2000, 0x00)] bank0).memRead 0x4000 = 0x01 ∧
      (writes [(0x2000, 0xE3)] bank0).memRead 0x4000 = 0x03 := by decide
theorem test_rom_bank_high :
    (writes [(0x2000, 0x20), (0x4000, 0x01)] bank0).memRead 0x4000 = 0x21 ∧
      (writes [(0x2000, 0x20), (0x4000, 0x01), (0x6000, 0x01)] bank0).memRead 0x4000 = 0x01 := by decide
theorem test_eram_closed :
    (writes [(0xA000, 0x11)] bank0).memRead 0xA000 = 0xFF ∧ (writes [(0x0000, 0x0A), (0xA000, 0x11)] bank0).memRead 0xA000 = 0xFF := by
  decide
theorem test_eram_banks :
    let s := writes [(0x0000, 0x0A), (0x6000, 0x01), (0x4000, 0x02), (0xA000, 0x22)] bank0
    s.memRead 0xA000 = 0x22 ∧ (s.memWrite 0x4000 0x03).memRead 0xA000 = 0x00 ∧ (s.memWrite 0x0000 0x1B).memRead 0xA000 = 0xFF := by
  decide
theorem test_oam_dma :
    let s := (put [(0xC000, 0x11), (0xC09F, 0x9F)] State.reset).memWrite 0xFF46 0xC0
    s.peek 0xFE00 = 0x11 ∧ s.peek 0xFE9F = 0x9F ∧ s.peek 0xFE01 = 0x00 ∧ s.peek 0xFF46 = 0xC0 ∧ s.ticks = 0 := by decide +kernel

/-- A machine with a boot ROM that starts `3E 01` (section 8.4). -/
def bootRomState : State :=
  .coldBoot { Config.params with bootRom := some ((Vector.replicate 256 0).set 0 0x3E |>.set 1 0x01) }

theorem test_boot_overlay :
    bootRomState.memRead 0x0000 = 0x3E ∧ bootRomState.memRead 0x0100 = 0x00 ∧ (bootRomState.memWrite 0xFF50 0x01).memRead 0x0000 = 0x00 ∧
      ((bootRomState.memWrite 0xFF50 0x01).memWrite 0xFF50 0x00).memRead 0x0000 = 0x3E := by decide
theorem test_joypad :
    let s := State.reset.setButtons { State.reset.buttons with a := true, down := true }
    (s.memWrite 0xFF00 0x10).memRead 0xFF00 = 0xDE ∧ (s.memWrite 0xFF00 0x20).memRead 0xFF00 = 0xE7 ∧
      (s.memWrite 0xFF00 0x30).memRead 0xFF00 = 0xFF ∧ (s.memWrite 0xFF00 0x00).memRead 0xFF00 = 0xC6 := by decide

/-! ## PPU (sections 9 and 10) -/

/-- The reset state at tick `n`, seen by the PPU. -/
def seen (n : Nat) : State := State.ppuStep { put [(0xFF40, 0x11)] State.reset with ticks := n }

theorem test_ppu_first_line :
    (seen 76).memRead 0xFF41 = 0x06 ∧ (seen 80).memRead 0xFF41 = 0x07 ∧ (seen 252).memRead 0xFF41 = 0x04 ∧
      (seen 456).memRead 0xFF41 = 0x02 ∧ (seen 456).ppu.line = 1 := by decide +kernel
theorem test_ppu_frame :
    (seen 65660).ppu.frameReady = false ∧ (seen 65664).ppu.frameReady = true ∧ (seen 65664).memRead 0xFF41 = 0x01 ∧
      (seen 70220).ppu.line = 153 ∧ (seen 70224).ppu.line = 0 ∧ (seen 70224).ppu.mode = .oamScan := by decide +kernel
theorem test_ppu_lyc :
    let s := put [(0xFF40, 0x11), (0xFF45, 0x01), (0xFFFF, 0x02)] State.reset
    (State.ppuStep { s with ticks := 704 }).peek 0xFF0F = 0x00 ∧ (State.ppuStep { s with ticks := 708 }).peek 0xFF0F = 0x02 := by
  decide +kernel

/-- The setup of section 10, with an attribute, an X and an LCDC. -/
def scene (attr x lcdc : Byte) : State :=
  put [(0xFF40, lcdc), (0xFF47, 0xE4), (0xFF48, 0xE4), (0x8010, 0xFF), (0x8021, 0xFF), (0x9800, 1), (0xFE00, 16), (0xFE01, x),
    (0xFE02, 2), (0xFE03, attr)] State.reset

theorem test_sprite_over :
    let l := (scene 0x00 8 0x93).composeLine 0
    l[0] = 2 ∧ l[7] = 2 ∧ l[8] = 0 := by decide +kernel
theorem test_sprite_behind :
    let l := (scene 0x80 12 0x93).composeLine 0
    l[0] = 1 ∧ l[7] = 1 ∧ l[8] = 2 ∧ l[11] = 2 ∧ l[12] = 0 := by decide +kernel

/-! ## APU (section 12) -/

/-- Channel 1 triggered as in section 12.1. -/
def square1 : State :=
  writes [(0xFF24, 0x77), (0xFF25, 0x11), (0xFF11, 0x80), (0xFF12, 0xF0), (0xFF13, 0x00), (0xFF14, 0x87)] State.reset

theorem test_trigger1 :
    square1.apu.ch1.voice = { active := true, bounded := false, lenLeft := 1048576, timer := 1024 } ∧ square1.apu.ch1.pos = 0 ∧
      square1.apu.ch1.env.volume = 15 ∧ square1.apu.sweep = { shadow := 0x700, left := 0 } ∧ square1.mix = (120, 120) := by decide
theorem test_duty_step :
    let t := repeatN State.apuTick1 1 { square1 with apu := { square1.apu with ch1 := { square1.apu.ch1 with voice :=
      { square1.apu.ch1.voice with timer := 1 } } } }
    t.apu.ch1.pos = 1 ∧ t.apu.ch1.voice.timer = 1024 ∧ t.mix = (0, 0) := by decide
theorem test_wave_level :
    let s (code : Byte) := writes [(0xFF30, 0xF0), (0xFF1A, 0x80), (0xFF1C, code), (0xFF1D, 0), (0xFF25, 0x44), (0xFF24, 0), (0xFF1E, 0x87)]
      State.reset
    (s 0x20).mix = (15, 15) ∧ (s 0x40).mix = (7, 7) ∧ (s 0x60).mix = (3, 3) ∧ (s 0x00).mix = (0, 0) ∧ (s 0x20).apu.ch3.voice.timer = 512 := by
  decide
theorem test_lfsr :
    lfsrStep false 0x7FFF = 0x3FFF ∧ lfsrStep false 0x0001 = 0x4000 ∧ lfsrStep true 0x7FFF = 0x3FBF ∧ lfsrStep true 0x0181 = 0x40C0 := by
  decide
theorem test_length_runs_out :
    let s := writes [(0xFF11, 0x7F), (0xFF12, 0xF0), (0xFF14, 0xC7)] State.reset
    let v := s.apu.ch1.voice
    v.bounded = true ∧ v.lenLeft = 16384 ∧ (Voice.countLength { v with lenLeft := 1 }).active = false := by decide
theorem test_sweep :
    let s := writes [(0xFF10, 0x11), (0xFF13, 0x00), (0xFF14, 0x84)] State.reset
    let t := (s.setSweepLeft 1).sweepTick
    s.apu.sweep.left = 32768 ∧ t.apu.sweep.shadow = 0x600 ∧ t.peek 0xFF13 = 0x00 ∧ t.peek 0xFF14 = 0x86 := by decide
theorem test_envelope :
    let s := writes [(0xFF21, 0xF1), (0xFF23, 0x80)] State.reset
    s.apu.ch4.env = { volume := 15, up := false, period := 1, left := 65536 } ∧ s.apu.ch4.lfsr = 0x7FFF ∧
      (Envelope.tick { s.apu.ch4.env with left := 1 }).volume = 14 := by decide
theorem test_render_counts :
    (State.reset.apu.sampleFrac + 1 * State.reset.params.sampleRate) / 1000 = 44 ∧ sampleTicks 44100 0 = 95 := by decide

/-! ## Witnesses: for every obligation with hypotheses, a concrete state and operands that meet them -/

/-- An answer that goes on. -/
def goesOn (r : Answer) : Bool :=
  match r with
  | .next _ => true
  | .fault _ => false
  | .refused _ => false

/-- The state after an instruction. -/
def result (i : Instr) (s : State) : State :=
  match exec i s with
  | .next t => t
  | .fault _ => s
  | .refused _ => s

/-- A step that goes on answers the state after it. -/
theorem step_after {s : State} (h : goesOn (step s) = true) : step s = .next (after s) := by
  unfold after
  cases hs : step s with
  | next t => rfl
  | fault e => rw [hs] at h; exact absurd h (by simp [goesOn])
  | refused e => rw [hs] at h; exact absurd h (by simp [goesOn])

/-- An instruction that goes on answers its result. -/
theorem exec_result {i : Instr} {s : State} (h : goesOn (exec i s) = true) : exec i s = .next (result i s) := by
  unfold result
  cases hs : exec i s with
  | next t => rfl
  | fault e => rw [hs] at h; exact absurd h (by simp [goesOn])
  | refused e => rw [hs] at h; exact absurd h (by simp [goesOn])

theorem witness_EncodeThenDecode :
    (Instr.ldBcD16 0x1234).wf = true ∧ (Instr.cbBit7H).wf = true ∧ (Instr.stop 0xFF).wf = true ∧ Instr.illegalFD.wf = true := by decide

theorem witness_DecodeThenEncode :
    decode [0xCB, 0x7C, 9] = .ok .cbBit7H [9] ∧ decode [0xFA, 0x04, 0x01] = .ok (.ldAIndA16 0x0104) [] := by decide

theorem witness_LengthFromFirstByte :
    Spec.instrLength 0x00 ≤ ([] : List Byte).length + 1 ∧ Spec.instrLength 0xCD ≤ ([1, 2] : List Byte).length + 1 ∧
      ([1] : List Byte).length + 1 < Spec.instrLength 0xCD ∧ ([] : List Byte).length + 1 < Spec.instrLength 0xCB := by decide

theorem witness_IllegalBytesAreExactlyEleven :
    (0xD3 : Byte) ∈ Spec.illegalBytes ∧ (0xFD : Byte) ∈ Spec.illegalBytes ∧ (0xCB : Byte) ∉ Spec.illegalBytes ∧
      (0x00 : Byte) ∉ Spec.illegalBytes := by decide

theorem witness_CostsOfR149 :
    (0x00 : Byte) ∉ Spec.illegalBytes ∧ (0xFF : Byte) ∉ Spec.illegalBytes ∧ (0xC4 : Byte) ∉ Spec.illegalBytes := by decide

theorem witness_Jumps_and_CallsAndReturns :
    Spec.taken State.reset .z = true ∧ Spec.taken State.reset .nz = false ∧ Spec.taken State.reset .c = true ∧
      Spec.taken State.reset .nc = false := by decide

theorem witness_StepRunsDecodedInstruction :
    let s := start g0 [] [0x3E, 0x42]
    s.fatal = none ∧ s.interruptPhase.halted = false ∧ s.interruptPhase.stopped = false ∧
      decode [s.interruptPhase.memRead s.interruptPhase.regs.pc, s.interruptPhase.memRead (s.interruptPhase.regs.pc + 1),
        s.interruptPhase.memRead (s.interruptPhase.regs.pc + 2)] = .ok (.ldAD8 0x42) [0x00] ∧
      goesOn (exec (.ldAD8 0x42) { s.interruptPhase with regs := { s.interruptPhase.regs with
        pc := s.interruptPhase.regs.pc + BitVec.ofNat 16 (encode (.ldAD8 0x42)).length } }) = true := by decide

theorem witness_StepRunsDecodedInstruction_fatal :
    let s := start g0 [] [0xFD]
    s.fatal = none ∧ s.interruptPhase.halted = false ∧ s.interruptPhase.stopped = false ∧
      decode [s.interruptPhase.memRead s.interruptPhase.regs.pc, s.interruptPhase.memRead (s.interruptPhase.regs.pc + 1),
        s.interruptPhase.memRead (s.interruptPhase.regs.pc + 2)] = .ok .illegalFD [0x00, 0x00] ∧
      (result .illegalFD s.interruptPhase).fatal.isSome = true := by decide

theorem witness_WaitingStepSpendsFourTicks :
    let h := { State.reset with halted := true }
    let p := { State.reset with stopped := true }
    (h.fatal = none ∧ h.interruptPhase.halted = true) ∧ (p.fatal = none ∧ p.interruptPhase.stopped = true) := by decide

theorem witness_InterruptPhase_nothing_asks : ∀ k, Spec.asks (start g0 [(0xFFFF, 0x1F)] []) k = false := by
  intro k; cases k <;> decide

theorem witness_InterruptPhase_wake :
    let s := { start g0 [(0xFFFF, 0x04), (0xFF0F, 0x04)] [] with halted := true }
    Spec.asks s .timer = true ∧ s.ime = false := by decide

theorem witness_InterruptPhase_entry_high :
    let s := { start g0 [(0xFFFF, 0x1E), (0xFF0F, 0x18)] [] with ime := true }
    Spec.asks s .serial = true ∧ s.ime = true ∧ ∀ j : Irq, j.bit < Irq.serial.bit → Spec.asks s j = false := by
  refine ⟨by decide, by decide, ?_⟩
  intro j; cases j <;> decide

theorem witness_InterruptPhase_entry_low :
    let s := { start g0 [(0xFFFF, 0x1F), (0xFF0F, 0x1F)] [] with ime := true }
    Spec.asks s .vblank = true ∧ s.ime = true ∧ ∀ j : Irq, j.bit < Irq.vblank.bit → Spec.asks s j = false :=
  ⟨by decide, by decide, fun _ h => absurd h (Nat.not_lt_zero _)⟩

theorem witness_EnableDelay_step :
    step (start g0 [] [0xFB]) = .next (after (start g0 [] [0xFB])) ∧ (after (start g0 [] [0xFB])).fatal = none :=
  ⟨step_after (by decide), by decide⟩

theorem witness_EnableDelay_clauses :
    State.idle { State.reset with halted := true } = true ∧ State.idle (start g0 [] [0xFB]) = false ∧
      (start g0 [] [0xFB]).fetchInstr = .ei ∧ (start g0 [] [0xF3]).fetchInstr = .di ∧ (start g0 [] [0xD9]).fetchInstr = .reti ∧
      (start g0 [] []).fetchInstr = .nop ∧ (start g0 [] []).eiDelay = 0 ∧
      State.eiDelay { start g0 [] [] with eiDelay := 1 } = 1 ∧ State.eiDelay { start g0 [] [] with eiDelay := 2 } = 0 + 2 := by decide

theorem witness_FatalStop :
    (let s := start g0 [] [0xED]
     s.fatal = none ∧ s.interruptPhase.halted = false ∧ s.interruptPhase.stopped = false ∧
       s.interruptPhase.memRead s.interruptPhase.regs.pc ∈ Spec.illegalBytes ∧ (after s).fatal ≠ none) ∧
      State.fatal { State.reset with fatal := some { opcode := 0xED, steps := 0 } } = some { opcode := 0xED, steps := 0 } := by decide

theorem witness_FatalStop_step : step (start g0 [] [0xED]) = .next (after (start g0 [] [0xED])) := step_after (by decide)

theorem witness_EveryRunningStateSteps :
    (start g0 [] []).fatal = none ∧ (after (start g0 [] [])).fatal = none ∧ (start g0 [] [0xED]).fatal = none ∧
      (after (start g0 [] [0xED])).fatal ≠ none := by decide

/-- A stopped core, its step, and what is asked of it. -/
theorem witness_WhatNoStepChanges :
    let s := { State.reset with stopped := true }
    step s = .next (after s) ∧ s.stopped = true := ⟨step_after (by decide), by decide⟩

/-- A state with cells in both stores, in canonical form. -/
def filled : State :=
  { put [(0xC000, 0x11), (0xFF07, 0x05), (0xFF05, 0xFE), (0xFFFF, 0x1F)] State.reset with eram := [(5, 0x22)], divCount := 255 }

theorem filled_memoryForm : filled.memoryForm := ⟨by decide, by decide⟩

theorem witness_TimerAdvance :
    filled.memoryForm ∧ filled.divCount + 44 ≤ 300 ∧ filled.timaCount + 44 ≤ 300 := ⟨filled_memoryForm, by decide, by decide⟩

theorem witness_RaisingAndKeyPress : filled.memoryForm ∧ (filled.peek 0xFFFF).getLsbD Irq.joypad.bit = true :=
  ⟨filled_memoryForm, by decide⟩

theorem witness_CartridgeReads_overlay :
    (∃ rom, bootRomState.params.bootRom = some rom) ∧ bootRomState.peek 0xFF50 = 0x00 ∧ (0x0000 : Word).toNat < 256 ∧
      (0x00FF : Word).toNat < 256 := ⟨⟨_, rfl⟩, by decide, by decide, by decide⟩

theorem witness_CartridgeReads_image :
    State.reset.params.bootRom = none ∧ bootRomState.peek 0xFF50 = 0x00 ∧ 0x00FF < (0x0100 : Word).toNat ∧
      (bootRomState.memWrite 0xFF50 0x01).peek 0xFF50 ≠ 0x00 ∧ State.reset.params.cartKind = .noMapper ∧
      bank0.params.cartKind = .switchable ∧ (0x3FFF : Word).toNat ≤ 0x3FFF ∧ 0x4000 ≤ (0x4000 : Word).toNat ∧
      (0x7FFF : Word).toNat ≤ 0x7FFF ∧ bank0.mbc.mode = false ∧ (writes [(0x6000, 0x01)] bank0).mbc.mode = true := by decide

/-- A cartridge with its external RAM open. -/
def open0 : State := writes [(0x0000, 0x0A), (0x6000, 0x01), (0x4000, 0x03)] bank0

theorem witness_CartridgeReads_eram :
    0xA000 ≤ (0xA000 : Word).toNat ∧ (0xBFFF : Word).toNat ≤ 0xBFFF ∧ open0.params.cartKind = .switchable ∧
      open0.mbc.ramEnable = true ∧ open0.mbc.mode = true ∧ 0 < open0.params.ramBanks ∧ bank0.mbc.ramEnable = false ∧
      (writes [(0x0000, 0x0A)] bank0).mbc.mode = false ∧ State.reset.params.cartKind = .noMapper ∧
      State.reset.params.ramBanks = 0 := by decide

theorem open0_memoryForm : open0.memoryForm ∧ bank0.memoryForm ∧ State.reset.memoryForm :=
  ⟨⟨by decide, by decide⟩, ⟨by decide, by decide⟩, by decide, by decide⟩

theorem witness_BankRegistersAndExternalRam :
    (0x0000 : Word).toNat ≤ 0x1FFF ∧ (0x1FFF : Word).toNat ≤ 0x1FFF ∧ 0x2000 ≤ (0x2000 : Word).toNat ∧ (0x3FFF : Word).toNat ≤ 0x3FFF ∧
      0x4000 ≤ (0x4000 : Word).toNat ∧ (0x5FFF : Word).toNat ≤ 0x5FFF ∧ 0x6000 ≤ (0x6000 : Word).toNat ∧ (0x7FFF : Word).toNat ≤ 0x7FFF ∧
      (open0.params.cartKind = .switchable ∧ open0.mbc.ramEnable = true ∧ open0.mbc.mode = true ∧ 0 < open0.params.ramBanks) ∧
      ¬ (bank0.params.cartKind = .switchable ∧ bank0.mbc.ramEnable = true ∧ bank0.mbc.mode = true ∧ 0 < bank0.params.ramBanks) := by
  decide

theorem witness_StoredBytesReadBack :
    (∀ a ∈ [0x8000, 0x9FFF, 0xDE00, 0xDFFF, 0xFE00, 0xFF0F, 0xFF80, 0xFFFF], Spec.plainAddress a) ∧ filled.memoryForm ∧
      0xC000 ≤ (0xC000 : Word).toNat ∧ (0xDDFF : Word).toNat ≤ 0xDDFF ∧ 0xE000 ≤ (0xE000 : Word).toNat ∧
      (0xFDFF : Word).toNat ≤ 0xFDFF ∧ (0xDFFE : Word).toNat < 0xDFFF := by
  refine ⟨?_, filled_memoryForm, by decide, by decide, by decide, by decide, by decide⟩
  unfold Spec.plainAddress
  decide

/-- `LD (HL),d8` with HL in the work RAM. -/
def storing : State := start { g0 with h := 0xC0, l := 0x00 } [] []

theorem witness_MemoryFrame :
    storing.memoryForm ∧ exec (.ldIndHlD8 0x99) storing = .next (result (.ldIndHlD8 0x99) storing) ∧
      ∀ a ∈ Spec.storedTo (.ldIndHlD8 0x99) storing, writeReaches a.toNat (0xC001 : Word).toNat = false :=
  ⟨⟨by decide, by decide⟩, exec_result (by decide), fun a ha => by
    rw [show Spec.storedTo (.ldIndHlD8 0x99) storing = [0xC000] by decide] at ha
    cases List.mem_singleton.1 ha
    decide⟩

theorem witness_MemoryFrame_stores :
    Spec.storedTo (.ldIndHlD8 0x99) storing = [0xC000] ∧ Spec.storedTo .pushBc storing = [0xFFFD, 0xFFFC] ∧
      Spec.storedTo (.ldIndA16Sp 0xC100) storing = [0xC100, 0xC101] ∧ Spec.storedTo (.cpD8 1) storing = [] ∧
      Spec.storedTo .cbBit0IndHl storing = [] ∧ Spec.storedTo .cbSet0IndHl storing = [0xC000] ∧
      Spec.storedTo (.callZA16 0) storing = [0xFFFD, 0xFFFC] ∧ Spec.storedTo (.callNzA16 0) storing = [] := by decide

theorem witness_StateFrame :
    exec .nop storing = .next (result .nop storing) ∧ Instr.nop ≠ .di ∧ Instr.nop ≠ .ei ∧ Instr.nop ≠ .reti ∧ Instr.nop ≠ .halt ∧
      (∀ b, Instr.nop ≠ .stop b) ∧ (∀ b ∈ Spec.illegalBytes, encode .nop ≠ [b]) ∧ Spec.storedTo .nop storing = [] ∧
      ¬ Spec.writesFlags (encode .nop) ∧ (∀ b ∈ Spec.spWriters, (encode .nop).head? ≠ some b) ∧
      (∀ b ∈ Spec.pcWriters, (encode .nop).head? ≠ some b) :=
  ⟨exec_result (by decide), by decide, by decide, by decide, by decide, fun _ => by simp, by decide, by decide,
    by unfold encode Spec.writesFlags; decide, by decide, by decide⟩

theorem witness_OamDmaCopies :
    filled.memoryForm ∧ 159 < 160 ∧ (0xFDFF ≠ 0xFF46 ∧ 0xFDFF < 0xFE00) ∧ (0xFEA0 ≠ 0xFF46 ∧ 0xFE9F < 0xFEA0) :=
  ⟨filled_memoryForm, by decide, by decide, by decide⟩

/-- A state at a line and mode, with an LCDC byte. -/
def atLine (line : Nat) (m : PpuMode) (lcdc : Byte) : State :=
  let s := put [(0xFF40, lcdc), (0xFF45, 0x05)] State.reset
  { s with ppu := { s.ppu with line := line, mode := m } }

theorem witness_PpuModeEnds :
    (atLine 0 .oamScan 0x91).ppu.mode = .oamScan ∧
      ((atLine 5 .transfer 0x11).ppu.mode = .transfer ∧ (atLine 5 .transfer 0x11).ppu.line = ((atLine 5 .transfer 0x11).peek 0xFF45).toNat ∧
        Spec.bitAt (atLine 5 .transfer 0x11) 0xFF40 7 = 0) ∧
      (Spec.bitAt (atLine 143 .transfer 0x91) 0xFF40 7 = 1 ∧ (atLine 143 .transfer 0x91).ppu.line < 144) ∧
      ((atLine 143 .hblank 0x91).ppu.mode = .hblank ∧ (atLine 143 .hblank 0x91).ppu.line + 1 = 144) ∧
      ((atLine 142 .hblank 0x91).ppu.mode = .hblank ∧ (atLine 142 .hblank 0x91).ppu.line + 1 ≠ 144) ∧
      ((atLine 152 .vblank 0x91).ppu.mode = .vblank ∧ (atLine 152 .vblank 0x91).ppu.line < 153) ∧
      ((atLine 153 .vblank 0x91).ppu.mode = .vblank ∧ (atLine 153 .vblank 0x91).ppu.line = 153) := by decide

theorem witness_PpuKeepsFrameTime :
    let s := { atLine 153 .vblank 0x91 with ticks := 500 }
    let r := State.reset
    (s.ppu.line ≤ 153 ∧ (s.ppu.mode = .vblank ↔ 144 ≤ s.ppu.line) ∧ s.ppu.budget < s.ppu.mode.duration ∧ s.ppu.last ≤ s.ticks) ∧
      (r.ppu.line ≤ 153 ∧ (r.ppu.mode = .vblank ↔ 144 ≤ r.ppu.line) ∧ r.ppu.budget < r.ppu.mode.duration ∧ r.ppu.last ≤ r.ticks) := by
  decide

theorem witness_BackgroundAndWindow :
    Spec.bitAt State.reset 0xFF40 1 = 0 ∧ Spec.bitAt (put [(0xFF40, 0xB1)] State.reset) 0xFF40 1 = 0 ∧ 0 < 160 ∧ 159 < 160 := by decide

theorem witness_SpritesOverBackground_none :
    Spec.bitAt (scene 0x00 8 0x93) 0xFF40 1 = 1 ∧ ∀ i, i < 40 → Spec.spriteShade (scene 0x00 8 0x93) i 100 0 = none := by
  refine ⟨by decide, ?_⟩
  decide +kernel

theorem witness_SpritesOverBackground_some :
    Spec.bitAt (scene 0x00 8 0x93) 0xFF40 1 = 1 ∧ Spec.spriteShade (scene 0x00 8 0x93) 0 7 0 = some 2 ∧
      ∀ j, 0 < j → j < 40 → Spec.spriteShade (scene 0x00 8 0x93) j 7 0 = none := by
  refine ⟨by decide, by decide, ?_⟩
  have h : ∀ j, j < 40 → 0 < j → Spec.spriteShade (scene 0x00 8 0x93) j 7 0 = none := by decide +kernel
  exact fun j h1 h2 => h j h2 h1

theorem witness_ChannelTriggers : filled.memoryForm ∧ (0x7F : Byte).getLsbD 7 = false ∧ (0x80 : Byte).getLsbD 7 = true :=
  ⟨filled_memoryForm, by decide, by decide⟩

/-- Every channel sounding, bounded, with one APU tick of length left. -/
def sounding : State :=
  let v : Voice := { active := true, bounded := true, lenLeft := 1, timer := 9 }
  let a := State.reset.apu
  { State.reset with apu :=
    { a with ch1 := { a.ch1 with voice := v }, ch2 := { a.ch2 with voice := v }, ch3 := { a.ch3 with voice := v },
             ch4 := { a.ch4 with voice := v } } }

theorem witness_LengthEndsTheSound :
    (sounding.apu.ch1.voice.active = true ∧ sounding.apu.ch1.voice.bounded = true ∧ 0 < sounding.apu.ch1.voice.lenLeft ∧
        sounding.apu.ch1.voice.lenLeft ≤ 1) ∧
      (sounding.apu.ch2.voice.active = true ∧ 0 < sounding.apu.ch2.voice.lenLeft) ∧
      (sounding.apu.ch3.voice.active = true ∧ 0 < sounding.apu.ch3.voice.lenLeft) ∧
      (sounding.apu.ch4.voice.active = true ∧ 0 < sounding.apu.ch4.voice.lenLeft) := by decide

/-- Channel 1 with no sweep running. -/
theorem witness_LengthEndsTheSound_noSweep :
    sounding.apu.ch1.voice.active = true ∧ 0 < sounding.apu.ch1.voice.lenLeft ∧ sounding.apu.sweep.left = 0 := by decide

/-- Channels at the edges of a tick: timers and lengths at 1 and above, and all of `sounding`'s. -/
def ticking : State :=
  let a := sounding.apu
  { sounding with apu :=
    { a with ch1 := { a.ch1 with voice := { a.ch1.voice with timer := 1, lenLeft := 2 } },
             ch2 := { a.ch2 with voice := { a.ch2.voice with timer := 1 }, pos := 7 },
             ch3 := { a.ch3 with voice := { a.ch3.voice with timer := 1, bounded := false }, pos := 31 },
             ch4 := { a.ch4 with voice := { a.ch4.voice with timer := 1, lenLeft := 9 } } } }

theorem witness_ApuTicks :
    (∀ v ∈ [sounding.apu.ch1.voice, sounding.apu.ch2.voice, sounding.apu.ch3.voice, sounding.apu.ch4.voice,
        ticking.apu.ch1.voice, ticking.apu.ch2.voice, ticking.apu.ch3.voice, ticking.apu.ch4.voice],
      v.active = true ∧ v.live) ∧
      (∀ v ∈ [filled.apu.ch1.voice, filled.apu.ch2.voice, filled.apu.ch3.voice, filled.apu.ch4.voice], v.active = false) := by
  unfold Voice.live
  decide

/-- R510, R512: the duty step after the last is step 0 and, with the frequency 0x700 of reset, the timer reloads 256 * 4; the
length then ends the sound. -/
theorem test_tick_square :
    let c := ticking.apuTick2.apu.ch2
    c.pos = 0 ∧ c.voice.timer = 1024 ∧ c.voice.lenLeft = 0 ∧ c.voice.active = false := by decide

/-- R510, R513, R514, R518: the wave position wraps at 32 and, with the frequency 0x700 of reset, reloads 256 * 2; NR43 = 0x00
reloads 8, and the LFSR shifts. -/
theorem test_tick_wave_and_noise :
    ticking.apuTick3.apu.ch3.pos = 0 ∧ ticking.apuTick3.apu.ch3.voice.timer = 512 ∧
      ticking.apuTick3.apu.ch3.voice.active = true ∧ ticking.apuTick4.apu.ch4.voice.timer = 8 ∧
      ticking.apuTick4.apu.ch4.lfsr = 0x3FFF ∧ ticking.apuTick4.apu.ch4.voice.lenLeft = 8 := by decide

theorem witness_EnvelopeSteps :
    (Envelope.off.period = 0) ∧
      (let e : Envelope := { volume := 15, up := true, period := 1, left := 2 }; e.period ≠ 0 ∧ 1 < e.left) ∧
      (let e : Envelope := { volume := 0, up := false, period := 7, left := 1 }; e.period ≠ 0 ∧ e.left = 1) := by decide

/-- The sweep one tick from its end, with these NR10 bits and shadow. -/
def sweeping (nr10 : Byte) (shadow : BitVec 11) : State :=
  let s := put [(0xFF10, nr10)] State.reset
  { s with apu := { s.apu with sweep := { shadow := shadow, left := 1 } } }

theorem witness_SweepSteps :
    State.reset.apu.sweep.left = 0 ∧ 1 < ((sweeping 0x11 0x400).setSweepLeft 2).apu.sweep.left ∧
      (let s := sweeping 0x10 0x400; s.apu.sweep.left = 1 ∧ (s.peek 0xFF10).toNat % 8 = 0) ∧
      (let s := sweeping 0x11 0x7F0
       s.apu.sweep.left = 1 ∧ (s.peek 0xFF10).toNat % 8 ≠ 0 ∧ (s.peek 0xFF10).toNat / 8 % 2 = 0 ∧
         2047 < s.apu.sweep.shadow.toNat + s.apu.sweep.shadow.toNat / 2 ^ ((s.peek 0xFF10).toNat % 8)) ∧
      (let s := sweeping 0x19 0x400
       s.apu.sweep.left = 1 ∧ (s.peek 0xFF10).toNat / 8 % 2 = 1 ∧
         s.apu.sweep.shadow.toNat - s.apu.sweep.shadow.toNat / 2 ^ ((s.peek 0xFF10).toNat % 8) ≤ 2047) := by decide

theorem witness_NoiseShiftRegister : (1 : BitVec 15) ≠ 0 ∧ (0x7FFF : BitVec 15) ≠ 0 := by decide

theorem witness_RenderedSamples : filled.memoryForm ∧ 0xFF12 ≠ 0xFF13 ∧ 0xFF12 ≠ 0xFF14 ∧ 0 < 44100 :=
  ⟨filled_memoryForm, by decide, by decide, by decide⟩

/-- `square1` with one sample due and a sample of one tick (R541). -/
def oneSample : State :=
  { square1 with apu := { square1.apu with sampleFrac := 1000 }, params := { square1.params with sampleRate := 4194304 } }

theorem witness_RenderedSamples_run :
    oneSample.fatal = none ∧ (HostOp.render 0).apply oneSample = .next (oneSample.render 0).1 ∧
      HostOp.consumeFrame.apply oneSample = .next oneSample.consumeFrame :=
  ⟨by decide, rfl, rfl⟩

/-- R577: the samples of a run are those its renders returned. -/
theorem test_run_samples :
    let r := drive [.consumeFrame, .render 0, .keyPress] oneSample
    r.samples = (oneSample.render 0).2 ∧ r.samples.length = 1 ∧ r.ending = .hostStopped := by decide

/-- R577, R391: a run ends at the fatal state; no step of the schedule after it is taken. -/
theorem test_run_ends_at_fatal :
    let s := start g0 [] [0xED]
    let r := drive [.machineStep, .machineStep, .render 1] s
    r.state.fatal = some { opcode := 0xED, steps := 0 } ∧ r.ending = .fatal { opcode := 0xED, steps := 0 } ∧
      r.replies = [.nothing] := by decide

theorem witness_ColdBootState :
    (Config.params.wf = true ∧ Config.params.bootRom = none) ∧ (bootRomState.params.wf = true ∧ bootRomState.params.bootRom ≠ none) ∧
      (isRamByte 0xFF00 = false ∧ isRamByte 0xFFFF = false) ∧ (isRamByte 0x8000 = true ∧ isRamByte 0xFFFE = true) := by decide

theorem witness_ResetMeetsTheInvariants : Config.params.wf = true ∧ (bankParams 1048576).wf = true := by decide

/-- A state that meets every invariant: the start state one instruction on. -/
def lively : State := start { g0 with f := 0xF0, pc := 0x0200 } [] [0x3E, 0x42]

theorem lively_mem : lively.mem = [] := by decide

theorem lively_echo : lively.echoForm := by
  intro a h1 h2
  unfold State.peek
  rw [lively_mem]
  exact (unlisted_bus_below (by omega)).trans (unlisted_bus_below (by omega)).symm

theorem lively_inv : lively.Inv where
  memory := ⟨by decide, by decide⟩
  echo := lively_echo
  storedBits := ⟨by decide, by decide⟩
  flags := by unfold State.flagForm; decide
  control := ⟨by decide, by decide⟩
  timer := ⟨by decide, by decide⟩
  bank := by unfold State.bankForm; decide
  ppu := ⟨by decide, by decide, by decide, by decide, fun _ => by decide⟩
  fatal := fun _ h => absurd h (by decide +revert)
  apu := ⟨fun h => absurd h (by decide), fun h => absurd h (by decide), fun h => absurd h (by decide),
    fun h => absurd h (by decide), fun h => absurd h (by decide), fun h => absurd h (by decide), fun h => absurd h (by decide),
    by decide⟩

theorem witness_StepKeepsMemory :
    step lively = .next (after lively) ∧ lively.memoryForm ∧ lively.echoForm ∧ lively.storedBitsForm :=
  ⟨step_after (by decide), lively_inv.memory, lively_echo, lively_inv.storedBits⟩

theorem witness_StepKeepsControlState :
    step lively = .next (after lively) ∧ lively.flagForm ∧ lively.controlForm ∧ lively.bankForm :=
  ⟨step_after (by decide), lively_inv.flags, lively_inv.control, lively_inv.bank⟩

theorem witness_StepKeepsTimersAndPpu :
    step lively = .next (after lively) ∧ lively.memoryForm ∧ lively.timerForm ∧ lively.ppuForm :=
  ⟨step_after (by decide), lively_inv.memory, lively_inv.timer, lively_inv.ppu⟩

theorem witness_HostOperationsKeepTheInvariants :
    lively.Inv ∧ HostOp.machineStep.apply lively = .next (after lively) ∧ HostOp.keyPress.apply lively = .next lively.keyPress ∧
      (HostOp.coldBoot Config.params).apply lively = .next State.reset ∧ Config.params.wf = true :=
  ⟨lively_inv, step_after (by decide), rfl, rfl, by decide⟩

/-- A schedule whose cold boot has legal parameters, from a state that meets the invariants. -/
theorem witness_HostOperationsKeepTheInvariants_run :
    lively.Inv ∧ ∀ p, HostOp.coldBoot p ∈ [HostOp.machineStep, .coldBoot Config.params, .render 1] → p.wf = true := by
  refine ⟨lively_inv, fun p h => ?_⟩
  simp only [List.mem_cons, HostOp.coldBoot.injEq, List.not_mem_nil, or_false, reduceCtorEq, false_or] at h
  subst h
  decide

end Sys2Proof.Tests
end

/-! Proofs of the family 00_scope: what no step changes. -/

namespace Sys2Proof.Machine

/-! ## The rule of a step: what its elementary actions keep, it keeps -/

/-- `P` is kept by everything a machine step is made of: the CPU's own fields replaced, a bus write, the timers' and the
PPU's own updates, the step counted, STOP and the fatal stop. -/
structure StepClosed (P : State → Prop) : Prop where
  cpu : ∀ t g ime d halted ticks, P t → P (State.withCpu g ime d halted ticks t)
  memWrite : ∀ t a v, P t → P (State.memWrite t a v)
  timers : ∀ t m c k, P t → P { t with mem := m, divCount := c, timaCount := k }
  ppu : ∀ t m p, P t → P { t with mem := m, ppu := p }
  counted : ∀ t n, P t → P { t with steps := n }
  stop : ∀ t, P t → P { t with stopped := true }
  fatal : ∀ t op, P t → P (State.raiseFatal t op)

namespace StepClosed

variable {P : State → Prop} (hP : StepClosed P)
include hP

theorem setRegs {t : State} (g : Regs) (h : P t) : P (t.setRegs g) := hP.cpu t g t.ime t.eiDelay t.halted t.ticks h

theorem tick {t : State} (n : Nat) (h : P t) : P (t.tick n) := hP.cpu t t.regs t.ime t.eiDelay t.halted (t.ticks + n) h

theorem setMaster {t : State} (ime : Bool) (d : Nat) (h : P t) : P { t with ime := ime, eiDelay := d } :=
  hP.cpu t t.regs ime d t.halted t.ticks h

theorem setHalted {t : State} (b : Bool) (h : P t) : P { t with halted := b } :=
  hP.cpu t t.regs t.ime t.eiDelay b t.ticks h

theorem poke {t : State} (a : Nat) (v : Byte) (h : P t) : P (t.poke a v) := hP.timers t _ t.divCount t.timaCount h

theorem enterInterrupt {t : State} (k : Irq) (h : P t) : P (t.enterInterrupt k) :=
  State.enterInterrupt_induct P (fun _ v => hP.poke _ v) (fun _ => hP.setMaster false 0) (fun _ _ => hP.setRegs _)
    hP.memWrite (fun _ _ => hP.setRegs _) (fun _ => hP.tick 20) t k h

theorem interruptPhase {t : State} (h : P t) : P t.interruptPhase :=
  State.interruptPhase_induct P (fun _ => hP.setHalted false) (fun _ k => hP.enterInterrupt k) t h

theorem executed {t u : State} (hu : Executed t u) (h : P t) : P u := by
  have moves : ∀ {v}, Moves t v → P v := fun hm => hm.induct P (fun _ g _ => hP.setRegs g) hP.memWrite h
  cases hu with
  | moved c _ hm => exact hP.tick c (moves hm)
  | master b d c _ _ hm => exact hP.tick c (hP.setMaster b d (moves hm))
  | halted => exact hP.tick 4 (hP.setHalted true h)
  | stopped => exact hP.tick 4 (hP.stop t h)
  | fatal op => exact hP.fatal t op h

theorem endStep {t : State} (t0 : Nat) (h : P t) : P (t.endStep t0) := by
  obtain ⟨m, c, k, hm⟩ := t.advanceTimers_eq (t.ticks - t0)
  have hadv : P (t.advanceTimers (t.ticks - t0)) := hm ▸ hP.timers t m c k h
  exact hP.counted _ _ hadv

theorem afterExec {t : State} (t0 : Nat) (h : P t) : P (t.afterExec t0) := by
  unfold State.afterExec
  split
  · exact h
  · obtain ⟨ime, d, -, he⟩ := t.eiRule_eq
    exact hP.endStep t0 (he ▸ hP.setMaster ime d h)

theorem ppuPhase {t : State} (h : P t) : P t.ppuPhase := by
  unfold State.ppuPhase
  split
  · exact h
  · obtain ⟨m, p, hp⟩ := t.ppuStep_eq
    exact hp ▸ hP.ppu t m p h

/-- A machine step keeps what its elementary actions keep. -/
theorem of_step {s t : State} (hst : step s = .next t) (h : P s) : P t := by
  have hint : P s.interruptPhase := hP.interruptPhase h
  obtain ⟨-, ⟨-, rfl⟩ | ⟨-, u, hu, -, rfl⟩⟩ := step_cases hst
  · exact hP.ppuPhase (hP.endStep _ (hP.tick 4 hint))
  · exact hP.ppuPhase (hP.afterExec _ (hP.executed hu (hP.setRegs _ hint)))

end StepClosed

/-! ## A bus write and the audio state -/

/-- A bus write does to the audio state what a trigger does, or nothing: what the four triggers keep, it keeps (R504). -/
theorem State.memWrite_apu_induct (P : Apu → Prop) (h1 : ∀ t : State, P t.apu → P t.trigger1.apu)
    (h2 : ∀ t : State, P t.apu → P t.trigger2.apu) (h3 : ∀ t : State, P t.apu → P t.trigger3.apu)
    (h4 : ∀ t : State, P t.apu → P t.trigger4.apu) (s : State) (a : Word) (v : Byte) (h : P s.apu) :
    P (s.memWrite a v).apu := by
  refine State.memWrite_cases (fun t => P t.apu) s a v (fun _ => ?_) (fun _ _ => ?_) (fun _ => ?_)
  · unfold State.cartWrite
    split <;> exact h
  · unfold State.eramWrite
    split <;> exact h
  · have hs : P (s.storeByte a.toNat v).apu :=
      State.storeByte_cases (fun t => P t.apu) s _ v (fun _ => h) (fun _ => h) (fun _ => h)
    refine State.writeEffects_cases (fun t => P t.apu) _ _ _ v hs (fun _ _ => hs) (fun _ _ => hs) (fun _ _ => hs)
      (fun _ => h1 _ hs) (fun _ => h2 _ hs) (fun _ => h3 _ hs) (fun _ => h4 _ hs) (fun _ => ?_)
    obtain ⟨m, hm⟩ := (s.storeByte a.toNat v).oamCopy_eq v 160
    rw [State.oamDma, hm]
    exact hs

/-- No bus write carries a fraction of a sample (R541). -/
@[simp] theorem State.memWrite_sampleFrac (s : State) (a : Word) (v : Byte) :
    (s.memWrite a v).apu.sampleFrac = s.apu.sampleFrac :=
  s.memWrite_apu_induct (fun p => p.sampleFrac = s.apu.sampleFrac) (fun _ h => h) (fun _ h => h) (fun _ h => h)
    (fun _ h => h) a v rfl

/-- No bus write counts a sample (R541). -/
@[simp] theorem State.memWrite_samplesDone (s : State) (a : Word) (v : Byte) :
    (s.memWrite a v).apu.samplesDone = s.apu.samplesDone :=
  s.memWrite_apu_induct (fun p => p.samplesDone = s.apu.samplesDone) (fun _ h => h) (fun _ h => h) (fun _ h => h)
    (fun _ h => h) a v rfl

/-! ## What only the host changes -/

/-- What only a host operation changes is the same in `t` as in `s` (R8, R29, R41, R541), and STOP has not ended (R363). -/
def State.HostSideKept (s t : State) : Prop :=
  t.params = s.params ∧ t.buttons = s.buttons ∧ t.apu.sampleFrac = s.apu.sampleFrac ∧
    t.apu.samplesDone = s.apu.samplesDone ∧ (s.stopped = true → t.stopped = true)

theorem State.hostSideKept_refl (s : State) : s.HostSideKept s := ⟨rfl, rfl, rfl, rfl, id⟩

/-- A bus write touches nothing of it: of the audio state it reaches only the channels. -/
theorem State.HostSideKept.memWrite {s t : State} (h : s.HostSideKept t) (a : Word) (v : Byte) :
    s.HostSideKept (t.memWrite a v) := by
  obtain ⟨hparams, hbuttons, hfrac, hdone, hstop⟩ := h
  exact ⟨(t.memWrite_params a v).trans hparams, (t.memWrite_buttons a v).trans hbuttons,
    (t.memWrite_sampleFrac a v).trans hfrac, (t.memWrite_samplesDone a v).trans hdone,
    fun hs => (t.memWrite_stopped a v).trans (hstop hs)⟩

/-- STOP sets `stopped`, and nothing of the host's. -/
theorem State.HostSideKept.stop {s t : State} (h : s.HostSideKept t) : s.HostSideKept { t with stopped := true } := by
  obtain ⟨hparams, hbuttons, hfrac, hdone, -⟩ := h
  exact ⟨hparams, hbuttons, hfrac, hdone, fun _ => rfl⟩

/-- No elementary action of a step changes it: the bus write and STOP are the two that come near. -/
theorem State.hostSideKept_stepClosed (s : State) : StepClosed s.HostSideKept where
  cpu _ _ _ _ _ _ h := h
  memWrite _ a v h := h.memWrite a v
  timers _ _ _ _ h := h
  ppu _ _ _ h := h
  counted _ _ h := h
  stop _ h := h.stop
  fatal _ _ h := h

/-- Settles O35: what only the host changes is kept by every elementary action, so by a step. -/
theorem whatNoStepChanges : Obligations.WhatNoStepChanges :=
  fun s _ h => s.hostSideKept_stepClosed.of_step h s.hostSideKept_refl

end Sys2Proof.Machine

/-! Proofs of the family 10_state: what a step keeps of the state's forms, its tick bounds, the register pairs, the state
after cold boot, and the frame of every instruction. -/

namespace Sys2Proof.Machine

/-! ## The phases of a step, said once -/

section InterruptEntry
variable (s : State) (k : Irq)

@[simp] theorem State.enterInterrupt_f : (s.enterInterrupt k).regs.f = s.regs.f := by simp [State.enterInterrupt]
@[simp] theorem State.enterInterrupt_eiDelay : (s.enterInterrupt k).eiDelay = 0 := by simp [State.enterInterrupt]
@[simp] theorem State.enterInterrupt_halted : (s.enterInterrupt k).halted = s.halted := by simp [State.enterInterrupt]
@[simp] theorem State.enterInterrupt_stopped : (s.enterInterrupt k).stopped = s.stopped := by simp [State.enterInterrupt]
@[simp] theorem State.enterInterrupt_fatal : (s.enterInterrupt k).fatal = s.fatal := by simp [State.enterInterrupt]
@[simp] theorem State.enterInterrupt_steps : (s.enterInterrupt k).steps = s.steps := by simp [State.enterInterrupt]
@[simp] theorem State.enterInterrupt_ticks : (s.enterInterrupt k).ticks = s.ticks + 20 := by simp [State.enterInterrupt]
@[simp] theorem State.enterInterrupt_ppu : (s.enterInterrupt k).ppu = s.ppu := by simp [State.enterInterrupt]

end InterruptEntry

/-- The interrupt phase may end HALT, and then may enter an interrupt (R401, R402). -/
theorem State.interruptPhase_eq (s : State) : ∃ b : Bool, (b = true → s.halted = true) ∧
    (s.interruptPhase = { s with halted := b } ∨
      ∃ k, s.interruptPhase = State.enterInterrupt { s with halted := b } k) := by
  have hwake : ∃ b : Bool, (b = true → s.halted = true) ∧
      (if s.pending ≠ 0 then { s with halted := false } else s) = { s with halted := b } := by
    split
    · exact ⟨false, nofun, rfl⟩
    · exact ⟨s.halted, id, rfl⟩
  obtain ⟨b, hb, hs⟩ := hwake
  refine ⟨b, hb, ?_⟩
  unfold State.interruptPhase
  rw [hs]
  dsimp only
  split
  · split
    · exact .inr ⟨_, rfl⟩
    · exact .inl rfl
  · exact .inl rfl

section InterruptPhase
variable (s : State)

@[simp] theorem State.interruptPhase_f : s.interruptPhase.regs.f = s.regs.f := by
  obtain ⟨b, -, h | ⟨k, h⟩⟩ := s.interruptPhase_eq <;> simp [h]

@[simp] theorem State.interruptPhase_stopped : s.interruptPhase.stopped = s.stopped := by
  obtain ⟨b, -, h | ⟨k, h⟩⟩ := s.interruptPhase_eq <;> simp [h]

@[simp] theorem State.interruptPhase_fatal : s.interruptPhase.fatal = s.fatal := by
  obtain ⟨b, -, h | ⟨k, h⟩⟩ := s.interruptPhase_eq <;> simp [h]

@[simp] theorem State.interruptPhase_steps : s.interruptPhase.steps = s.steps := by
  obtain ⟨b, -, h | ⟨k, h⟩⟩ := s.interruptPhase_eq <;> simp [h]

@[simp] theorem State.interruptPhase_ppu : s.interruptPhase.ppu = s.ppu := by
  obtain ⟨b, -, h | ⟨k, h⟩⟩ := s.interruptPhase_eq <;> simp [h]

/-- The interrupt phase spends nothing, or the 20 ticks of an entry (R403). -/
theorem State.interruptPhase_ticks : s.interruptPhase.ticks = s.ticks ∨ s.interruptPhase.ticks = s.ticks + 20 := by
  obtain ⟨b, -, h | ⟨k, h⟩⟩ := s.interruptPhase_eq <;> simp [h]

theorem State.interruptPhase_ticks_ge : s.ticks ≤ s.interruptPhase.ticks := by
  obtain h | h := s.interruptPhase_ticks <;> omega

theorem State.interruptPhase_eiDelay_le : s.interruptPhase.eiDelay ≤ s.eiDelay := by
  obtain ⟨b, -, h | ⟨k, h⟩⟩ := s.interruptPhase_eq <;> simp [h]

/-- The interrupt phase never halts the core. -/
theorem State.halted_of_interruptPhase (hh : s.interruptPhase.halted = true) : s.halted = true := by
  obtain ⟨b, hb, h | ⟨k, h⟩⟩ := s.interruptPhase_eq <;> exact hb (by simpa [h] using hh)

end InterruptPhase

/-- Moving registers and writing bytes changes the registers and what a bus write reaches, and nothing else. -/
theorem Moves.busOnly {s t : State} (h : Moves s t) : ∃ g, (s.setRegs g).BusOnly t := by
  refine h.induct (fun t => ∃ g, (s.setRegs g).BusOnly t) ?_ ?_ ⟨s.regs, _, _, _, _, _, _, rfl⟩
  · rintro _ g' - ⟨g, _, _, _, _, _, _, rfl⟩
    exact ⟨g', _, _, _, _, _, _, rfl⟩
  · exact fun t a v ⟨g, ht⟩ => ⟨g, ht.trans (t.memWrite_busOnly a v)⟩

/-- An executed instruction makes the record, or leaves it as it was. -/
theorem Executed.fatal_cases {s t : State} (h : Executed s t) : (∃ op, t = s.raiseFatal op) ∨ t.fatal = s.fatal := by
  cases h with
  | moved c _ hm => obtain ⟨_, _, _, _, _, _, _, rfl⟩ := hm.busOnly; exact .inr rfl
  | master b d c _ _ hm => obtain ⟨_, _, _, _, _, _, _, rfl⟩ := hm.busOnly; exact .inr rfl
  | halted => exact .inr rfl
  | stopped => exact .inr rfl
  | fatal op => exact .inl ⟨op, rfl⟩

@[simp] theorem State.endStep_ppu (s : State) (t0 : Nat) : (s.endStep t0).ppu = s.ppu := by
  obtain ⟨m, c, k, h⟩ := s.advanceTimers_eq (s.ticks - t0)
  rw [State.endStep, h]

@[simp] theorem State.endStep_fatal (s : State) (t0 : Nat) : (s.endStep t0).fatal = s.fatal := by
  obtain ⟨m, c, k, h⟩ := s.advanceTimers_eq (s.ticks - t0)
  rw [State.endStep, h]

/-- Without a fatal record the PPU takes its step (R71). -/
theorem State.ppuPhase_of_running {s : State} (h : s.fatal = none) : s.ppuPhase = s.ppuStep := by
  simp [State.ppuPhase, h]

/-- Without a fatal record the EI rule and the end of the step follow the instruction (R145). -/
theorem State.afterExec_of_running {s : State} (t0 : Nat) (h : s.fatal = none) :
    s.afterExec t0 = s.eiRule.endStep t0 := by
  simp [State.afterExec, h]

/-- The fatal stop ends the step at once: no EI rule, no timers, no PPU step (R391). -/
theorem State.raiseFatal_ends_step (s : State) (op : Byte) (t0 : Nat) :
    ((s.raiseFatal op).afterExec t0).ppuPhase = s.raiseFatal op := rfl

theorem State.ppuPhase_eq (s : State) : ∃ m p, s.ppuPhase = { s with mem := m, ppu := p } := by
  unfold State.ppuPhase
  split
  · exact ⟨_, _, rfl⟩
  · exact s.ppuStep_eq

/-- The end of a step and the PPU count the step and write memory, the two sub-counts and the PPU's own state (R425,
R451). -/
theorem State.endStep_ppuPhase_eq (s : State) (t0 : Nat) : ∃ m c k p,
    (s.endStep t0).ppuPhase = { s with steps := s.steps + 1, mem := m, divCount := c, timaCount := k, ppu := p } := by
  obtain ⟨m, c, k, hadv⟩ := s.advanceTimers_eq (s.ticks - t0)
  obtain ⟨m', p, hppu⟩ := (s.endStep t0).ppuPhase_eq
  exact ⟨m', c, k, p, by rw [hppu, State.endStep, hadv]⟩

/-- What a step leaves, in its three cases: an idle step, the fatal stop, or an executed instruction with the EI rule
after it; the first and the last count a step and run the devices (R145, R391). -/
inductive State.Stepped (s : State) : State → Prop where
  | idle (hidle : s.interruptPhase.idle = true) (m : Memory) (c k : Nat) (p : Ppu) :
      Stepped s { s.interruptPhase.tick 4 with
        steps := s.interruptPhase.steps + 1, mem := m, divCount := c, timaCount := k, ppu := p }
  | fatal (n : Nat) (op : Byte) : Stepped s ((s.interruptPhase.pastFetch n).raiseFatal op)
  | executed (hidle : s.interruptPhase.idle = false) (n : Nat) {u : State}
      (hu : Executed (s.interruptPhase.pastFetch n) u) (hf : u.fatal = none) (b : Bool) (d : Nat) (hd : d ≤ u.eiDelay)
      (m : Memory) (c k : Nat) (p : Ppu) :
      Stepped s { u with
        ime := b, eiDelay := d, steps := u.steps + 1, mem := m, divCount := c, timaCount := k, ppu := p }

/-- A step is taken from a running state, and is one of these cases. -/
theorem step_stepped {s t : State} (h : step s = .next t) : s.fatal = none ∧ s.Stepped t := by
  obtain ⟨hs, ⟨hidle, rfl⟩ | ⟨hidle, u, hu, -, rfl⟩⟩ := step_cases h
  · obtain ⟨m, c, k, p, he⟩ := (s.interruptPhase.tick 4).endStep_ppuPhase_eq s.ticks
    exact ⟨hs, he ▸ .idle hidle m c k p⟩
  · obtain ⟨op, rfl⟩ | hf := hu.fatal_cases
    · exact ⟨hs, .fatal _ op⟩
    · have hnone : u.fatal = none := hf.trans (s.interruptPhase_fatal.trans hs)
      obtain ⟨b, d, hd, hei⟩ := u.eiRule_eq
      obtain ⟨m, c, k, p, he⟩ := u.eiRule.endStep_ppuPhase_eq s.ticks
      rw [State.afterExec_of_running _ hnone, he, hei]
      exact ⟨hs, .executed hidle _ hu hnone b d hd m c k p⟩

/-! ## F, the control state, the bank registers and the fatal record -/

/-- Every instruction that writes F writes its low nibble zero (R24). -/
theorem Moves.flagForm {s t : State} (h : Moves s t) (hs : s.flagForm) : t.flagForm := by
  refine h.induct State.flagForm (fun t g hg ht => ?_) (fun t a v ht => ?_) hs
  · obtain hf | hf := hg
    · exact (congrArg (· &&& 0x0F) hf).trans ht
    · exact hf
  · exact (congrArg (fun g : Regs => g.f &&& 0x0F) (t.memWrite_regs a v)).trans ht

theorem Executed.flagForm {s t : State} (h : Executed s t) (hs : s.flagForm) : t.flagForm := by
  cases h with
  | moved c _ hm => have hu := hm.flagForm hs; exact hu
  | master b d c _ _ hm => have hu := hm.flagForm hs; exact hu
  | halted => exact hs
  | stopped => exact hs
  | fatal op => exact hs

/-- An instruction sets `ei_delay` to at most 2, and HALT and STOP are executed only by a core that is neither (R27,
R443). -/
theorem Executed.controlForm {s t : State} (h : Executed s t) (hidle : s.idle = false) (hs : s.eiDelay ≤ 2) :
    t.controlForm := by
  obtain ⟨hh, hst⟩ : s.halted = false ∧ s.stopped = false := by simpa [State.idle] using hidle
  cases h with
  | moved c _ hm =>
    obtain ⟨_, _, _, _, _, _, _, rfl⟩ := hm.busOnly
    exact ⟨hs, by simp [hh]⟩
  | master b d c hd _ hm =>
    obtain ⟨_, _, _, _, _, _, _, rfl⟩ := hm.busOnly
    exact ⟨hd, by simp [hh]⟩
  | halted => exact ⟨hs, by simp [hst]⟩
  | stopped => exact ⟨hs, by simp [hh]⟩
  | fatal op => exact ⟨hs, by simp [hh]⟩

/-- A write to the bank registers never leaves `bank_lo` 0 (R96). -/
theorem Mbc.write_bankLo_ne_zero (n : Nat) (v : Byte) (m : Mbc) (h : m.bankLo ≠ 0) : (m.write n v).bankLo ≠ 0 := by
  unfold Mbc.write
  split
  · exact h
  split
  · dsimp only
    split
    · decide
    · assumption
  split
  · exact h
  · exact h

/-- Only a write below 0x8000 reaches the bank registers (R89). -/
theorem State.bankForm_memWrite (s : State) (a : Word) (v : Byte) (h : s.bankForm) : (s.memWrite a v).bankForm := by
  refine State.memWrite_cases State.bankForm s a v (fun _ => ?_) (fun _ _ => ?_) (fun _ => ?_)
  · unfold State.cartWrite
    split
    · exact h
    · exact Mbc.write_bankLo_ne_zero _ v _ h
  · unfold State.eramWrite
    split <;> exact h
  · have hs : (s.storeByte a.toNat v).bankForm :=
      State.storeByte_cases State.bankForm s _ v (fun _ => h) (fun _ => h) (fun _ => h)
    refine State.writeEffects_cases State.bankForm _ _ _ v hs (fun _ _ => hs) (fun _ _ => hs) (fun _ _ => hs)
      (fun _ => hs) (fun _ => hs) (fun _ => hs) (fun _ => hs) (fun _ => ?_)
    obtain ⟨m, hm⟩ := (s.storeByte a.toNat v).oamCopy_eq v 160
    rw [State.oamDma, hm]
    exact hs

theorem State.bankForm_stepClosed : StepClosed State.bankForm where
  cpu _ _ _ _ _ _ h := h
  memWrite t a v h := t.bankForm_memWrite a v h
  timers _ _ _ _ h := h
  ppu _ _ _ h := h
  counted _ _ h := h
  stop _ h := h
  fatal _ _ h := h

theorem step_flagForm {s t : State} (h : step s = .next t) (hs : s.flagForm) : t.flagForm := by
  have hint : s.interruptPhase.flagForm := (congrArg (· &&& 0x0F) s.interruptPhase_f).trans hs
  obtain ⟨-, ht⟩ := step_stepped h
  cases ht with
  | idle => exact hint
  | fatal => exact hint
  | executed _ _ hu => have hu' := hu.flagForm hint; exact hu'

theorem step_controlForm {s t : State} (h : step s = .next t) (hs : s.controlForm) : t.controlForm := by
  obtain ⟨hdelay, hboth⟩ := hs
  have hint : s.interruptPhase.controlForm :=
    ⟨s.interruptPhase_eiDelay_le.trans hdelay,
      fun ⟨hh, hst⟩ => hboth ⟨s.halted_of_interruptPhase hh, s.interruptPhase_stopped.symm.trans hst⟩⟩
  obtain ⟨-, ht⟩ := step_stepped h
  cases ht with
  | idle => exact hint
  | fatal => exact hint
  | executed hidle _ hu _ _ _ hd =>
    obtain ⟨hu2, hunot⟩ := hu.controlForm hidle hint.1
    exact ⟨hd.trans hu2, hunot⟩

/-- A step makes the record with the steps completed before it, and only then ends with a record (R391). -/
theorem step_fatalForm {s t : State} (h : step s = .next t) : t.fatalForm := by
  obtain ⟨hs, ht⟩ := step_stepped h
  cases ht with
  | idle => exact fun r hr => nomatch (s.interruptPhase_fatal.trans hs).symm.trans hr
  | fatal => rintro _ ⟨⟩; rfl
  | executed _ _ _ hf => exact fun r hr => nomatch hf.symm.trans hr

/-- Settles O58: each form is kept by the three cases of a step. -/
theorem stepKeepsControlState : Obligations.StepKeepsControlState :=
  fun _ _ h => ⟨step_flagForm h, step_controlForm h, State.bankForm_stepClosed.of_step h, step_fatalForm h⟩

/-! ## The sub-counts stay under their periods -/

/-- The sub-counts are under their periods, over memory in canonical form: what every action of a step keeps. -/
def State.countForm (s : State) : Prop := Memory.wf .bus s.mem = true ∧ s.timerForm

/-- A byte store that is not to TAC keeps the form. -/
theorem State.countForm_poke {s : State} {n : Nat} (v : Byte) (hn : Store.holds .bus n = true) (htac : n ≠ 0xFF07)
    (h : s.countForm) : (s.poke n v).countForm := by
  obtain ⟨hwf, hdiv, htima⟩ := h
  exact ⟨s.poke_mem_wf v hwf hn, hdiv, by rw [s.peek_poke_ne v hwf htac.symm]; exact htima⟩

/-- Raising a source keeps the form. -/
theorem State.countForm_raiseIrq {s : State} (k : Irq) (h : s.countForm) : (s.raiseIrq k).countForm := by
  unfold State.raiseIrq
  split
  · exact State.countForm_poke _ (by decide) (by decide) h
  · exact h

/-- The period is chosen by TAC's low two bits (R423). -/
theorem tacPeriod_congr {v w : Byte} (h : field v 0 2 = field w 0 2) : tacPeriod v = tacPeriod w := by
  unfold tacPeriod
  rw [h]

/-- A write to TAC that selects another period clears the timer's sub-count, any other keeps the period (R422). -/
theorem State.countForm_writeTac (s : State) (v : Byte) (h : s.countForm) :
    ((s.storeByte 0xFF07 v).writeEffects (s.peek 0xFF07) 0xFF07 v).countForm := by
  obtain ⟨hwf, hdiv, htima⟩ := h
  have hwf' : Memory.wf .bus (s.poke 0xFF07 v).mem = true := s.poke_mem_wf v hwf (by decide)
  have hstored : (s.poke 0xFF07 v).peek 0xFF07 = v := s.peek_poke_same _ v hwf
  show State.countForm (if field (s.peek 0xFF07) 0 2 ≠ field v 0 2 then { s.poke 0xFF07 v with timaCount := 0 }
    else s.poke 0xFF07 v)
  split
  · exact ⟨hwf', hdiv, tacPeriod_pos _⟩
  · rename_i hsame
    refine ⟨hwf', hdiv, ?_⟩
    rw [hstored, ← tacPeriod_congr (not_not.mp hsame)]
    exact htima

/-- Copying into OAM keeps the form. -/
theorem State.countForm_oamDma {s : State} (v : Byte) (h : s.countForm) : (s.oamDma v).countForm := by
  have hk : ∀ k ≤ 160, (s.oamCopy v k).countForm := by
    intro k
    induction k with
    | zero => exact fun _ => h
    | succ k ih => exact fun hk => State.countForm_poke _ (Store.bus_holds (by omega)) (by omega) (ih (by omega))
  exact hk 160 (Nat.le_refl _)

/-- A bus write keeps the form: a write to DIV or to TAC may clear a sub-count, no other write reaches one. -/
theorem State.countForm_memWrite (s : State) (a : Word) (v : Byte) (h : s.countForm) : (s.memWrite a v).countForm := by
  refine State.memWrite_cases State.countForm s a v (fun _ => ?_) (fun _ _ => ?_) (fun hh => ?_)
  · unfold State.cartWrite
    split <;> exact h
  · unfold State.eramWrite
    split <;> exact h
  · by_cases htac : a.toNat = 0xFF07
    · rw [htac]
      exact s.countForm_writeTac v h
    · have hpoke : ∀ w, (s.poke a.toNat w).countForm := fun w => State.countForm_poke w hh htac h
      have hclear : State.countForm { s.poke a.toNat 0 with divCount := 0 } := by
        obtain ⟨hwf, -, htima⟩ := hpoke 0
        exact ⟨hwf, Nat.zero_lt_succ _, htima⟩
      have hs : (s.storeByte a.toNat v).countForm :=
        State.storeByte_cases State.countForm s _ v (fun _ => h) (fun _ => hclear) hpoke
      exact State.writeEffects_cases State.countForm _ _ _ v hs
        (fun _ _ => State.countForm_poke _ (Store.bus_holds (by omega)) (by omega) hs)
        (fun _ _ => State.countForm_poke _ (Store.bus_holds (by omega)) (by omega) hs)
        (fun htac' => absurd htac' htac) (fun _ => hs) (fun _ => hs) (fun _ => hs) (fun _ => hs)
        (fun _ => State.countForm_oamDma v hs)

/-- The interrupt phase keeps the form: an entry stores to IF and pushes through the bus (R403). -/
theorem State.countForm_interruptPhase {s : State} (h : s.countForm) : s.interruptPhase.countForm :=
  State.interruptPhase_induct State.countForm (fun _ ht => ht)
    (State.enterInterrupt_induct State.countForm (fun _ v => State.countForm_poke v (by decide) (by decide))
      (fun _ ht => ht) (fun _ _ ht => ht) State.countForm_memWrite (fun _ _ ht => ht) (fun _ ht => ht)) s h

theorem Executed.countForm {s t : State} (h : Executed s t) (hs : s.countForm) : t.countForm := by
  have moves : ∀ {u}, Moves s u → u.countForm := fun hm =>
    hm.induct State.countForm (fun _ _ _ hu => hu) State.countForm_memWrite hs
  cases h with
  | moved c _ hm => have hu := moves hm; exact hu
  | master b d c _ _ hm => have hu := moves hm; exact hu
  | halted => exact hs
  | stopped => exact hs
  | fatal op => exact hs

/-- A timer increment stores to TIMA and IF only: the form and TAC stay (R424). -/
theorem State.timerIncrement_countForm {s : State} (h : s.countForm) :
    s.timerIncrement.countForm ∧ s.timerIncrement.peek 0xFF07 = s.peek 0xFF07 := by
  have htima : ∀ v, (s.poke 0xFF05 v).countForm ∧ (s.poke 0xFF05 v).peek 0xFF07 = s.peek 0xFF07 := fun v =>
    ⟨State.countForm_poke v (by decide) (by decide) h, s.peek_poke_ne v h.1 (by decide)⟩
  unfold State.timerIncrement
  split
  · obtain ⟨hform, htac⟩ := htima (s.peek 0xFF06)
    exact ⟨State.countForm_raiseIrq _ hform, (State.raiseIrq_peek_ne _ _ hform.1 (by decide)).trans htac⟩
  · exact htima _

/-- The timer leaves its sub-count reduced by the period that TAC still selects (R425). -/
theorem State.countForm_advanceTimer {s : State} (d : Nat) (h : s.countForm) : (s.advanceTimer d).countForm := by
  unfold State.advanceTimer
  split
  · have hinc : ∀ n, (repeatN State.timerIncrement n s).countForm ∧
        (repeatN State.timerIncrement n s).peek 0xFF07 = s.peek 0xFF07 := fun n =>
      repeatN_induct (fun t => t.countForm ∧ t.peek 0xFF07 = s.peek 0xFF07) _
        (fun _ ⟨ht, htac⟩ => (State.timerIncrement_countForm ht).imp_right (·.trans htac)) n s ⟨h, rfl⟩
    obtain ⟨⟨hwf, hdiv, -⟩, htac⟩ := hinc ((s.timaCount + d) / tacPeriod (s.peek 0xFF07))
    exact ⟨hwf, hdiv, (Nat.mod_lt _ (tacPeriod_pos _)).trans_eq (congrArg tacPeriod htac.symm)⟩
  · exact h

theorem State.countForm_advanceTimers {s : State} (d : Nat) (h : s.countForm) : (s.advanceTimers d).countForm := by
  obtain ⟨hwf, -, htima⟩ :=
    State.countForm_poke (s.peek 0xFF04 + BitVec.ofNat 8 ((s.divCount + d) / 256)) (n := 0xFF04) (by decide) (by decide) h
  exact State.countForm_advanceTimer d ⟨hwf, Nat.mod_lt _ (by decide), htima⟩

theorem State.countForm_afterExec {s : State} (t0 : Nat) (h : s.countForm) : (s.afterExec t0).countForm := by
  unfold State.afterExec
  split
  · exact h
  · obtain ⟨b, d, -, he⟩ := s.eiRule_eq
    rw [he]
    exact State.countForm_advanceTimers _ h

theorem State.countForm_ppuPhase {s : State} (h : s.countForm) : s.ppuPhase.countForm := by
  unfold State.ppuPhase
  split
  · exact h
  · exact State.ppuStep_induct State.countForm (fun _ _ ht => ht) (fun _ k => State.countForm_raiseIrq k) s h

theorem step_countForm {s t : State} (h : step s = .next t) (hs : s.countForm) : t.countForm := by
  have hint := State.countForm_interruptPhase hs
  obtain ⟨-, ⟨-, rfl⟩ | ⟨-, u, hu, -, rfl⟩⟩ := step_cases h
  · exact State.countForm_ppuPhase (State.countForm_advanceTimers _ hint)
  · exact State.countForm_ppuPhase (State.countForm_afterExec _ (hu.countForm hint))

/-! ## The PPU's line, mode and budget stay together -/

/-- The line is 0..153, and V-blank is the mode of lines 144..153 (R39, R452, R456). -/
def Ppu.lineForm (p : Ppu) : Prop := p.line ≤ 153 ∧ (p.mode = .vblank ↔ 144 ≤ p.line)

@[simp] theorem State.raiseIrq_ppu (s : State) (k : Irq) : (s.raiseIrq k).ppu = s.ppu := by
  obtain ⟨m, hm⟩ := s.raiseIrq_eq k
  rw [hm]

/-- The end of a pixel transfer moves on to H-blank and changes the framebuffer besides (R454). -/
theorem State.endTransfer_ppu (s : State) :
    ∃ fb, s.endTransfer.ppu = { s.ppu with mode := .hblank, framebuffer := fb } := by
  have hraise : (if s.ppu.line = (s.peek 0xFF45).toNat then s.raiseIrq .lcdStat else s).ppu = s.ppu := by
    split
    · exact s.raiseIrq_ppu _
    · rfl
  unfold State.endTransfer
  dsimp only
  generalize (if s.ppu.line = (s.peek 0xFF45).toNat then s.raiseIrq .lcdStat else s) = t at hraise ⊢
  obtain ⟨fb, hfb⟩ := t.renderLine_eq
  exact ⟨fb, by rw [hfb, State.setMode_ppu, hraise]⟩

/-- The end of H-blank moves on to the next line, which is in V-blank when it is line 144 (R455). -/
theorem State.endHblank_ppu (s : State) : s.endHblank.ppu =
    if s.ppu.line + 1 = 144 then { s.ppu with line := s.ppu.line + 1, frameReady := true, mode := .vblank }
    else { s.ppu with line := s.ppu.line + 1, mode := .oamScan } := by
  unfold State.endHblank
  dsimp only
  split
  · rename_i h
    rw [if_pos (show s.ppu.line + 1 = 144 from h)]
    simp
  · rename_i h
    rw [if_neg (show ¬ s.ppu.line + 1 = 144 from h)]
    rfl

/-- The end of a V-blank line moves on to the next line, or to line 0 of the next frame (R456). -/
theorem State.endVblank_ppu (s : State) : s.endVblank.ppu =
    if 153 < s.ppu.line + 1 then { s.ppu with line := 0, mode := .oamScan }
    else { s.ppu with line := s.ppu.line + 1 } := by
  unfold State.endVblank
  dsimp only
  split
  · rename_i h
    exact (if_pos (show 153 < s.ppu.line + 1 from h)).symm
  · rename_i h
    exact (if_neg (show ¬ 153 < s.ppu.line + 1 from h)).symm

/-- The end of a mode moves on to the mode of the line it reaches, and leaves `last` alone (R453 to R456). -/
theorem State.endOfMode_lineForm (s : State) (h : s.ppu.lineForm) :
    s.endOfMode.ppu.lineForm ∧ s.endOfMode.ppu.last = s.ppu.last := by
  obtain ⟨hline, hmode⟩ := h
  unfold State.endOfMode
  cases hm : s.ppu.mode with
  | oamScan =>
    have hlow : ¬ 144 ≤ s.ppu.line := fun hge => by simpa [hm] using hmode.mpr hge
    exact ⟨⟨hline, iff_of_false nofun hlow⟩, rfl⟩
  | transfer =>
    have hlow : ¬ 144 ≤ s.ppu.line := fun hge => by simpa [hm] using hmode.mpr hge
    obtain ⟨fb, hfb⟩ := s.endTransfer_ppu
    dsimp only
    rw [hfb]
    exact ⟨⟨hline, iff_of_false nofun hlow⟩, rfl⟩
  | hblank =>
    have hlow : ¬ 144 ≤ s.ppu.line := fun hge => by simpa [hm] using hmode.mpr hge
    dsimp only
    rw [s.endHblank_ppu]
    split
    · exact ⟨⟨by dsimp only; omega, iff_of_true rfl (by dsimp only; omega)⟩, rfl⟩
    · exact ⟨⟨by dsimp only; omega, iff_of_false nofun (by dsimp only; omega)⟩, rfl⟩
  | vblank =>
    have hhigh : 144 ≤ s.ppu.line := hmode.mp hm
    dsimp only
    rw [s.endVblank_ppu]
    split
    · exact ⟨⟨Nat.zero_le _, iff_of_false nofun nofun⟩, rfl⟩
    · exact ⟨⟨by dsimp only; omega, iff_of_true hm (by dsimp only; omega)⟩, rfl⟩

/-- The loop of R451 ends modes, each of which keeps line and mode together and leaves `last` alone. -/
theorem ppuLoop_lineForm (fuel : Nat) (s : State) (h : s.ppu.lineForm) :
    (ppuLoop fuel s).ppu.lineForm ∧ (ppuLoop fuel s).ppu.last = s.ppu.last := by
  induction fuel generalizing s with
  | zero => exact ⟨h, rfl⟩
  | succ fuel ih =>
    unfold ppuLoop
    split
    · obtain ⟨hform, hlast⟩ := (s.setBudget (s.ppu.budget - s.ppu.mode.duration)).endOfMode_lineForm h
      exact (ih _ hform).imp_right (·.trans hlast)
    · exact ⟨h, rfl⟩

/-- A PPU step brings the PPU's form about from its line and mode alone: it sees every tick and spends the budget
(R451). -/
theorem State.ppuStep_ppuForm (s : State) (h : s.ppu.lineForm) : s.ppuStep.ppuForm := by
  have hticks : s.ppuStep.ticks = s.ticks := by
    obtain ⟨m, p, hp⟩ := s.ppuStep_eq
    rw [hp]
  obtain ⟨⟨hline, hmode⟩, hlast⟩ : s.ppuStep.ppu.lineForm ∧ s.ppuStep.ppu.last = s.ticks := ppuLoop_lineForm _ _ h
  have hseen : s.ppuStep.ppu.last = s.ppuStep.ticks := hlast.trans hticks.symm
  exact ⟨hline, hmode, s.ppuStep_budget_lt, hseen.le, fun _ => hseen⟩

/-- An executed instruction leaves the PPU's own state alone and never takes ticks back. -/
theorem Executed.ppu_ticks {s t : State} (h : Executed s t) : t.ppu = s.ppu ∧ s.ticks ≤ t.ticks := by
  cases h with
  | moved c _ hm => obtain ⟨_, _, _, _, _, _, _, rfl⟩ := hm.busOnly; exact ⟨rfl, Nat.le_add_right _ _⟩
  | master b d c _ _ hm => obtain ⟨_, _, _, _, _, _, _, rfl⟩ := hm.busOnly; exact ⟨rfl, Nat.le_add_right _ _⟩
  | halted => exact ⟨rfl, Nat.le_add_right _ _⟩
  | stopped => exact ⟨rfl, Nat.le_add_right _ _⟩
  | fatal op => exact ⟨rfl, Nat.le_refl _⟩

theorem State.ppuForm.lineForm {s : State} (hs : s.ppuForm) : s.ppu.lineForm := by
  obtain ⟨hline, hmode, -⟩ := hs
  exact ⟨hline, hmode⟩

/-- With a record made, the PPU's form asks only that no ticks were taken back. -/
theorem State.ppuForm.of_fatal {s t : State} (hs : s.ppuForm) (hppu : t.ppu = s.ppu) (hticks : s.ticks ≤ t.ticks)
    (hf : t.fatal ≠ none) : t.ppuForm := by
  obtain ⟨hline, hmode, hbudget, hlast, -⟩ := hs
  unfold State.ppuForm
  rw [hppu]
  exact ⟨hline, hmode, hbudget, hlast.trans hticks, fun h => absurd h hf⟩

/-- A step that makes the fatal record leaves the PPU's state; after any other the PPU runs (R71, R391). -/
theorem step_ppuForm {s t : State} (h : step s = .next t) (hs : s.ppuForm) : t.ppuForm := by
  have hrun : ∀ v : State, v.fatal = none → v.ppu = s.ppu → v.ppuPhase.ppuForm := fun v hf hv => by
    rw [State.ppuPhase_of_running hf]
    exact v.ppuStep_ppuForm (hv ▸ hs.lineForm)
  obtain ⟨hnone, ⟨-, rfl⟩ | ⟨-, u, hu, -, rfl⟩⟩ := step_cases h
  · exact hrun _ (by simp [hnone]) (by simp)
  · obtain ⟨hppu, hticks⟩ := hu.ppu_ticks
    have hppu : u.ppu = s.ppu := hppu.trans s.interruptPhase_ppu
    obtain ⟨op, rfl⟩ | hf := hu.fatal_cases
    · rw [State.raiseFatal_ends_step]
      exact hs.of_fatal hppu (s.interruptPhase_ticks_ge.trans hticks) nofun
    · have hnone : u.fatal = none := hf.trans (s.interruptPhase_fatal.trans hnone)
      obtain ⟨b, d, -, hei⟩ := u.eiRule_eq
      rw [State.afterExec_of_running _ hnone]
      exact hrun _ (by simp [hei, hnone]) (by simp [hei, hppu])

/-- Settles O59: every action of a step keeps the sub-counts, and the PPU's step keeps its own form. -/
theorem stepKeepsTimersAndPpu : Obligations.StepKeepsTimersAndPpu :=
  fun _ _ h hmem =>
    ⟨fun htimer => (step_countForm h ⟨hmem.1, htimer⟩).2, step_ppuForm h⟩

/-! ## Every running state steps -/

/-- An answer that is a next state. -/
def Answer.Completes (r : Answer) : Prop := ∃ t, r = .next t

theorem State.done_completes (s : State) (c : Nat) : Answer.Completes (s.done c) := ⟨_, rfl⟩

theorem jumpCond_completes (cc : Cond) (w : Word) (s : State) : Answer.Completes (jumpCond cc w s) := by
  unfold jumpCond
  split <;> exact State.done_completes _ _

theorem jumpRelCond_completes (cc : Cond) (e : Byte) (s : State) : Answer.Completes (jumpRelCond cc e s) := by
  unfold jumpRelCond
  split <;> exact State.done_completes _ _

theorem callCond_completes (cc : Cond) (w : Word) (s : State) : Answer.Completes (callCond cc w s) := by
  unfold callCond
  split <;> exact State.done_completes _ _

theorem retCond_completes (cc : Cond) (s : State) : Answer.Completes (retCond cc s) := by
  unfold retCond
  split <;> exact State.done_completes _ _

theorem cbByte_completes (n : Byte) (s : State) : Answer.Completes (cbByte n s) := by
  unfold cbByte
  split <;> exact State.done_completes _ _

/-- Every instruction answers a next state: the conditional ones and the CB byte in each of their branches, every other at
once. -/
theorem exec_completes (i : Instr) (s : State) : Answer.Completes (exec i s) := by
  cases i with
  | jpNzA16 w | jpZA16 w | jpNcA16 w | jpCA16 w => exact jumpCond_completes _ w s
  | jrNzE8 e | jrZE8 e | jrNcE8 e | jrCE8 e => exact jumpRelCond_completes _ e s
  | callNzA16 w | callZA16 w | callNcA16 w | callCA16 w => exact callCond_completes _ w s
  | retNz | retZ | retNc | retC => exact retCond_completes _ s
  | prefixCb n => exact cbByte_completes n s
  | _ => exact ⟨_, rfl⟩

/-- A running state steps (R72). -/
theorem step_completes {s : State} (hs : s.fatal = none) : ∃ t, step s = .next t := by
  unfold step State.machineStep
  rw [hs]
  unfold State.interpStep
  dsimp only
  split
  · exact ⟨_, rfl⟩
  · obtain ⟨u, hu⟩ := exec_completes s.interruptPhase.fetchInstr
      (s.interruptPhase.pastFetch s.interruptPhase.fetchLength)
    rw [hu]
    exact ⟨_, rfl⟩

/-- An instruction that makes no record counts no step itself and costs 4 to 24 ticks (R149). -/
theorem Executed.steps_ticks {s t : State} (h : Executed s t) (hf : t.fatal = none) :
    t.steps = s.steps ∧ s.ticks + 4 ≤ t.ticks ∧ t.ticks ≤ s.ticks + 24 := by
  cases h with
  | moved c hc hm =>
    obtain ⟨_, _, _, _, _, _, _, rfl⟩ := hm.busOnly
    exact ⟨rfl, Nat.add_le_add_left hc.1 _, Nat.add_le_add_left hc.2 _⟩
  | master b d c _ hc hm =>
    obtain ⟨_, _, _, _, _, _, _, rfl⟩ := hm.busOnly
    exact ⟨rfl, Nat.add_le_add_left hc.1 _, Nat.add_le_add_left hc.2 _⟩
  | halted => exact ⟨rfl, Nat.le_refl _, Nat.add_le_add_left (by decide) _⟩
  | stopped => exact ⟨rfl, Nat.le_refl _, Nat.add_le_add_left (by decide) _⟩
  | fatal op => nomatch hf

/-- Settles O34: the three cases of a step, after an interrupt phase of 0 or 20 ticks. -/
theorem everyRunningStateSteps : Obligations.EveryRunningStateSteps := by
  intro s hs
  obtain ⟨t, ht⟩ := step_completes hs
  refine ⟨t, ht, ?_⟩
  obtain ⟨-, hcase⟩ := step_stepped ht
  have hfatal : s.interruptPhase.fatal = none := s.interruptPhase_fatal.trans hs
  have hsteps := s.interruptPhase_steps
  have hint := s.interruptPhase_ticks
  cases hcase with
  | idle =>
    have hlow : s.ticks + 4 ≤ s.interruptPhase.ticks + 4 := by omega
    have hhigh : s.interruptPhase.ticks + 4 ≤ s.ticks + 44 := by omega
    exact ⟨fun _ => ⟨congrArg (· + 1) hsteps, hlow, hhigh⟩, fun hne => absurd hfatal hne⟩
  | fatal => exact ⟨nofun, fun _ => ⟨hsteps, hint⟩⟩
  | @executed _ n u hu hf =>
    obtain ⟨husteps, hcost⟩ := hu.steps_ticks hf
    have hcost : s.interruptPhase.ticks + 4 ≤ u.ticks ∧ u.ticks ≤ s.interruptPhase.ticks + 24 := hcost
    have hticks : s.ticks + 4 ≤ u.ticks ∧ u.ticks ≤ s.ticks + 44 := by omega
    exact ⟨fun _ => ⟨congrArg (· + 1) (husteps.trans hsteps), hticks⟩, fun hne => absurd hf hne⟩

/-- Settles O29: an idle step is the interrupt phase, 4 ticks, the end of the step and the PPU. -/
theorem waitingStepSpendsFourTicks : Obligations.WaitingStepSpendsFourTicks := by
  intro s hs hwait
  have hidle : s.interruptPhase.idle = true := by simpa [State.idle] using hwait
  obtain ⟨t, ht⟩ := step_completes hs
  obtain ⟨-, ⟨-, rfl⟩ | ⟨hbusy, -⟩⟩ := step_cases ht
  · rw [ht, State.ppuPhase_of_running (by simp [hs])]
    rfl
  · exact absurd hidle (by simp [hbusy])

/-! ## The register pairs -/

/-- A word is its two halves joined (R22). -/
@[simp] theorem joinBytes_halves (w : Word) : joinBytes (hiByte w) (loByte w) = w :=
  (BitVec.extractLsb'_append_extractLsb'_eq_extractLsb' (x := w) (start₁ := 0) (len₁ := 8) (start₂ := 8) rfl).trans
    BitVec.extractLsb'_eq_self

/-- A pair just written reads as written (R22). -/
theorem Regs.getPair_setPair (p : Pair) (w : Word) (g : Regs) : (g.setPair p w).getPair p = w := by
  cases p with
  | bc => exact joinBytes_halves w
  | de => exact joinBytes_halves w
  | hl => exact joinBytes_halves w
  | sp => rfl

/-- A register just written reads as written, and every other register as before (R21). -/
theorem Regs.get_set (r r' : Reg8) (v : Byte) (g : Regs) : (g.set r v).get r' = if r' = r then v else g.get r' := by
  cases r <;> cases r' <;> rfl

/-- Settles O7: the accessors of the pairs, and the read of a half after a write. -/
theorem pairsAliasRegisters : Obligations.PairsAliasRegisters := fun g w r r' v =>
  ⟨⟨rfl, rfl, rfl, rfl, rfl⟩, ⟨rfl, rfl, rfl, rfl⟩, fun p => Regs.getPair_setPair p w g, Regs.get_set r r' v g,
    ⟨rfl, rfl, rfl, rfl, rfl, rfl, rfl⟩, rfl⟩

/-! ## The backing store after cold boot -/

/-- The lower bound of a store's cells is below each of them. -/
theorem Memory.wfFrom_le_of_mem {st : Store} {lo : Nat} {m : Memory} {c : Host.Cell} (h : Memory.wfFrom st lo m = true)
    (hc : c ∈ m) : lo ≤ c.1 := by
  induction m generalizing lo with
  | nil => cases hc
  | cons d m ih =>
    obtain ⟨a, v⟩ := d
    simp only [Memory.wfFrom, Bool.and_eq_true, decide_eq_true_eq] at h
    obtain ⟨⟨⟨hlo, -⟩, -⟩, hm⟩ := h
    obtain rfl | hc := List.mem_cons.mp hc
    · exact hlo
    · exact hlo.trans (Nat.le_of_succ_le (ih hm hc))

/-- Writing a cell above every cell of a store in canonical form appends it. -/
theorem Memory.write_append {st : Store} {lo : Nat} {m rest : Memory} {b : Nat} {w : Byte}
    (h : Memory.wfFrom st lo (m ++ (b, w) :: rest) = true) : Memory.write st m b w = m ++ [(b, w)] := by
  induction m generalizing lo with
  | nil =>
    simp only [List.nil_append, Memory.wfFrom, Bool.and_eq_true, decide_eq_true_eq] at h
    simp [Memory.write, h.1.2]
  | cons c m ih =>
    obtain ⟨a, v⟩ := c
    simp only [List.cons_append, Memory.wfFrom, Bool.and_eq_true, decide_eq_true_eq] at h
    have hab : a + 1 ≤ b := Memory.wfFrom_le_of_mem h.2 (List.mem_append_right m List.mem_cons_self)
    rw [Memory.write, if_neg (by omega), if_neg (by omega), ih h.2]
    rfl

/-- Writing the cells of a store in canonical form, in order, builds that store. -/
theorem Memory.foldl_write {st : Store} {lo : Nat} {m l : Memory} (h : Memory.wfFrom st lo (m ++ l) = true) :
    l.foldl (fun m c => Memory.write st m c.1 c.2) m = m ++ l := by
  induction l generalizing m with
  | nil => simp
  | cons c l ih =>
    rw [List.foldl_cons, Memory.write_append h, ih (by simpa using h)]
    simp

/-- A store reads as unlisted at an address, or lists what it reads there. -/
theorem Memory.read_eq_unlisted_or_mem (st : Store) (m : Memory) (a : Nat) :
    Memory.read st m a = unlisted st a ∨ (a, Memory.read st m a) ∈ m := by
  induction m with
  | nil => exact .inl rfl
  | cons c m ih =>
    obtain ⟨b, w⟩ := c
    rw [Memory.read]
    split
    · exact .inl rfl
    · split
      · rename_i h
        exact .inr (h ▸ List.mem_cons_self)
      · exact ih.imp_right (List.mem_cons_of_mem _)

/-- What legal parameters say of RAM_INIT: canonical form, RAM bytes only, and equal bytes at the two addresses of an echo
pair (R8, R100, R562). -/
theorem Params.wf_ramInit {p : Params} (hp : p.wf = true) :
    Memory.wf .bus p.ramInit = true ∧ (∀ c ∈ p.ramInit, isRamByte c.1 = true) ∧
      (∀ c ∈ p.ramInit, ∀ b, echoAlias c.1 = some b → Memory.read .bus p.ramInit b = c.2) ∧
      Memory.wf .eram p.eramInit = true := by
  simp only [Params.wf, Bool.and_eq_true, List.all_eq_true] at hp
  obtain ⟨⟨⟨⟨⟨-, hwf⟩, hram⟩, hecho⟩, heram⟩, -⟩ := hp
  refine ⟨hwf, hram, fun c hc b hb => ?_, heram⟩
  have hc := hecho c hc
  rw [hb] at hc
  exact of_decide_eq_true hc

/-- The backing store after cold boot is RAM_INIT with BOOT written (R70). -/
theorem bootMemory_eq {p : Params} (hp : p.wf = true) :
    bootMemory p = Memory.write .bus p.ramInit 0xFF50 (if p.bootRom.isSome then 0x00 else 0x01) := by
  obtain ⟨hwf, hram, -⟩ := Params.wf_ramInit hp
  have hall : p.ramInit.foldl (fun m c => if isRamByte c.1 then Memory.write .bus m c.1 c.2 else m) [] = p.ramInit :=
    (List.foldl_ext _ _ _ fun m c hc => if_pos (hram c hc)).trans (Memory.foldl_write (m := []) hwf)
  exact congrArg (Memory.write .bus · 0xFF50 (if p.bootRom.isSome then 0x00 else 0x01)) hall

section ColdBoot
variable {p : Params} (hp : p.wf = true)
include hp

/-- BOOT after cold boot (R70). -/
theorem State.coldBoot_peek_boot : (State.coldBoot p).peek 0xFF50 = if p.bootRom.isSome then 0x00 else 0x01 := by
  obtain ⟨hwf, -⟩ := Params.wf_ramInit hp
  show Memory.read .bus (bootMemory p) 0xFF50 = _
  rw [bootMemory_eq hp, Memory.read_write_same _ _ hwf]

/-- Every byte but BOOT reads as RAM_INIT lists it (R70). -/
theorem State.coldBoot_peek {a : Nat} (ha : a ≠ 0xFF50) : (State.coldBoot p).peek a = Memory.read .bus p.ramInit a := by
  obtain ⟨hwf, -⟩ := Params.wf_ramInit hp
  show Memory.read .bus (bootMemory p) a = _
  rw [bootMemory_eq hp, Memory.read_write_ne _ hwf ha]

/-- A byte that is neither RAM nor BOOT holds its reset value (R70). -/
theorem State.coldBoot_peek_io {a : Nat} (ha : a ≠ 0xFF50) (hram : isRamByte a = false) :
    (State.coldBoot p).peek a = unlisted .bus a := by
  obtain ⟨-, hall, -⟩ := Params.wf_ramInit hp
  rw [State.coldBoot_peek hp ha]
  refine (Memory.read_eq_unlisted_or_mem .bus p.ramInit a).resolve_right fun hmem => ?_
  rw [hall _ hmem] at hram
  cases hram

/-- The backing store and the external RAM are in canonical form after cold boot. -/
theorem State.coldBoot_memoryForm : (State.coldBoot p).memoryForm := by
  obtain ⟨hwf, -, -, heram⟩ := Params.wf_ramInit hp
  refine ⟨?_, heram⟩
  show Memory.wf .bus (bootMemory p) = true
  rw [bootMemory_eq hp]
  exact Memory.wf_write _ hwf (by decide)

/-- The two bytes of an echo pair are equal after cold boot: each is listed equal to the other, or both are unlisted RAM
bytes (R100, R562). -/
theorem State.coldBoot_echoForm : (State.coldBoot p).echoForm := by
  obtain ⟨-, -, hecho, -⟩ := Params.wf_ramInit hp
  intro a hlow hhigh
  have hup : echoAlias a = some (a + 0x2000) := if_pos ⟨hlow, hhigh⟩
  have hdown : echoAlias (a + 0x2000) = some a := by
    rw [echoAlias, if_neg (by omega), if_pos (by omega), Nat.add_sub_cancel]
  rw [State.coldBoot_peek hp (by omega), State.coldBoot_peek hp (by omega)]
  obtain ha | ha := Memory.read_eq_unlisted_or_mem .bus p.ramInit a
  · obtain hb | hb := Memory.read_eq_unlisted_or_mem .bus p.ramInit (a + 0x2000)
    · rw [ha, hb, unlisted_bus_below (by omega), unlisted_bus_below (by omega)]
    · exact hecho _ hb _ hdown
  · exact (hecho _ ha _ hup).symm

/-- A cold boot meets all invariants. -/
theorem State.coldBoot_inv : (State.coldBoot p).Inv where
  memory := State.coldBoot_memoryForm hp
  echo := State.coldBoot_echoForm hp
  storedBits := by
    unfold State.storedBitsForm
    rw [State.coldBoot_peek_io hp (by decide) rfl, State.coldBoot_peek_io hp (by decide) rfl]
    decide
  flags := by
    show (Regs.boot p.bootRom.isSome).f &&& 0x0F = 0
    cases p.bootRom.isSome <;> decide
  control := ⟨Nat.zero_le _, nofun⟩
  timer := ⟨Nat.zero_lt_succ _, tacPeriod_pos _⟩
  bank := nofun
  ppu := ⟨Nat.zero_le _, iff_of_false nofun nofun, Nat.zero_lt_succ _, Nat.le_refl _, fun _ => rfl⟩
  fatal := nofun
  apu := ⟨nofun, nofun, nofun, nofun, nofun, nofun, nofun, Nat.zero_lt_succ _⟩

end ColdBoot

/-- Settles O56: `State.reset` is the cold boot of parameters that are legal. -/
theorem resetMeetsTheInvariants : Obligations.ResetMeetsTheInvariants :=
  ⟨State.coldBoot_inv (p := Config.params) (by decide), fun _ hp => State.coldBoot_inv hp⟩

/-- The model's table of I/O reset values is the spec's with BOOT after it. -/
theorem ioResetTable_eq : ioResetTable = Spec.ioReset ++ [(0xFF50, 0x01)] := rfl

/-- BOOT apart, an unlisted byte of the backing store reads as the spec's reset value (R42 to R69). -/
theorem unlisted_bus_eq_ioReset {a : Nat} (ha : a ≠ 0xFF50) : unlisted .bus a = (Spec.ioReset.lookup a).getD 0x00 := by
  have hboot : List.lookup a [((0xFF50 : Nat), (0x01 : Byte))] = none := by
    simpa [List.lookup_eq_none_iff] using ha
  show (ioResetTable.lookup a).getD 0 = _
  rw [ioResetTable_eq, List.lookup_append, hboot, Option.or_none]

/-- Settles O55: `Memory.read` of the backing store after cold boot is RAM_INIT's but at BOOT, and every other field is
read off. -/
theorem coldBootState : Obligations.ColdBootState := by
  intro p hp
  have hregs : (State.coldBoot p).regs = Regs.boot p.bootRom.isSome := rfl
  have hboot := State.coldBoot_peek_boot hp
  refine ⟨fun hb => ?_, fun hb => ?_, ⟨rfl, rfl, rfl, rfl, rfl, rfl, rfl, rfl, rfl⟩, rfl,
    ⟨rfl, rfl, rfl, rfl, rfl, ?_⟩, ?_, ⟨rfl, rfl, rfl, rfl, rfl, rfl, rfl⟩, rfl, ?_, ?_, fun _ => rfl, rfl⟩
  · rw [hregs, hboot, hb]
    exact ⟨rfl, rfl⟩
  · rw [hregs, hboot, Option.isSome_iff_ne_none.mpr hb]
    exact ⟨rfl, rfl⟩
  · intro y x hy hx
    show ((Vector.replicate 144 (Vector.replicate 160 (0 : Shade)))[y])[x] = 0
    rw [Vector.getElem_replicate, Vector.getElem_replicate]
  · intro v hv
    obtain rfl : v = Voice.off := List.eq_of_mem_replicate (n := 4) hv
    exact ⟨rfl, rfl, rfl⟩
  · exact fun a _ _ ha hram => (State.coldBoot_peek_io hp ha hram).trans (unlisted_bus_eq_ioReset ha)
  · exact fun a hram => State.coldBoot_peek hp (by rintro rfl; cases hram)

/-! ## The frame of an instruction -/

/-- Which of the fields that only some instructions write an instruction may write: what a bus write reaches, F, SP, PC,
the master enable with its delay, `halted`, `stopped` and the fatal record. -/
structure Footprint where
  stores : Prop
  flags  : Prop
  sp     : Prop
  pc     : Prop
  master : Prop
  halt   : Prop
  stop   : Prop
  fatal  : Prop

/-- The footprint that the rules give an instruction (R25 to R30, R89, R321, R361 to R368). -/
def footprint (i : Instr) (s : State) : Footprint where
  stores := Spec.storedTo i s ≠ []
  flags := Spec.writesFlags (encode i)
  sp := ∃ b ∈ Spec.spWriters, (encode i).head? = some b
  pc := ∃ b ∈ Spec.pcWriters, (encode i).head? = some b
  master := i = .di ∨ i = .ei ∨ i = .reti
  halt := i = .halt
  stop := ∃ b, i = .stop b
  fatal := ∃ b ∈ Spec.illegalBytes, encode i = [b]

/-- `t` differs from `s` only in the general registers, the ticks and what the footprint allows. -/
structure State.Within (p : Footprint) (s t : State) : Prop where
  fixed   : t.ppu = s.ppu ∧ t.steps = s.steps ∧ t.buttons = s.buttons ∧ t.params = s.params
  master  : ¬ p.master → t.ime = s.ime ∧ t.eiDelay = s.eiDelay
  halted  : ¬ p.halt → t.halted = s.halted
  stopped : ¬ p.stop → t.stopped = s.stopped
  fatal   : ¬ p.fatal → t.fatal = s.fatal
  stores  : ¬ p.stores → t.mem = s.mem ∧ t.eram = s.eram ∧ t.mbc = s.mbc ∧ t.apu = s.apu ∧ t.divCount = s.divCount ∧
    t.timaCount = s.timaCount
  flags   : ¬ p.flags → t.regs.f = s.regs.f
  sp      : ¬ p.sp → t.regs.sp = s.regs.sp
  pc      : ¬ p.pc → t.regs.pc = s.regs.pc

/-- An answer that, if it is a next state, keeps to the footprint. -/
def Answer.Within (p : Footprint) (s : State) (r : Answer) : Prop := ∀ t, r = .next t → s.Within p t

section Within
variable {p : Footprint} {s t : State}

/-! ### The state's operations -/

theorem State.Within.refl : s.Within p s where
  fixed := ⟨rfl, rfl, rfl, rfl⟩
  master _ := ⟨rfl, rfl⟩
  halted _ := rfl
  stopped _ := rfl
  fatal _ := rfl
  stores _ := ⟨rfl, rfl, rfl, rfl, rfl, rfl⟩
  flags _ := rfl
  sp _ := rfl
  pc _ := rfl

theorem State.Within.tick (h : s.Within p t) (n : Nat) : s.Within p (t.tick n) := { h with }

theorem State.Within.done (h : s.Within p t) (c : Nat) : Answer.Within p s (t.done c) := by
  rintro _ ⟨⟩
  exact h.tick c

/-- Replacing the registers writes F, SP and PC only where they differ. -/
theorem State.Within.setRegs (h : s.Within p t) (g : Regs) (hf : ¬ p.flags → g.f = t.regs.f)
    (hsp : ¬ p.sp → g.sp = t.regs.sp) (hpc : ¬ p.pc → g.pc = t.regs.pc) : s.Within p (t.setRegs g) :=
  { h with
    flags := fun hn => (hf hn).trans (h.flags hn)
    sp := fun hn => (hsp hn).trans (h.sp hn)
    pc := fun hn => (hpc hn).trans (h.pc hn) }

theorem State.Within.memWrite (h : s.Within p t) (a : Word) (v : Byte) (hs : p.stores) : s.Within p (t.memWrite a v) := by
  obtain ⟨_, _, _, _, _, _, ht⟩ := t.memWrite_busOnly a v
  rw [ht]
  exact { h with stores := fun hn => absurd hs hn }

theorem State.Within.setMaster (h : s.Within p t) (b : Bool) (d : Nat) (hp : p.master) :
    s.Within p { t with ime := b, eiDelay := d } := { h with master := fun hn => absurd hp hn }

theorem State.Within.setReg (h : s.Within p t) (r : Reg8) (v : Byte) : s.Within p (t.setReg r v) := by
  cases r <;> exact h.setRegs _ (fun _ => rfl) (fun _ => rfl) (fun _ => rfl)

theorem State.Within.setPc (h : s.Within p t) (w : Word) (hp : p.pc) : s.Within p (t.setPc w) :=
  h.setRegs _ (fun _ => rfl) (fun _ => rfl) (fun hn => absurd hp hn)

theorem State.Within.setSp (h : s.Within p t) (w : Word) (hp : p.sp) : s.Within p (t.setSp w) :=
  h.setRegs _ (fun _ => rfl) (fun hn => absurd hp hn) (fun _ => rfl)

theorem State.Within.setFlags (h : s.Within p t) (f : Flags) (hp : p.flags) : s.Within p (t.setFlags f) :=
  h.setRegs _ (fun hn => absurd hp hn) (fun _ => rfl) (fun _ => rfl)

theorem State.Within.setAFlags (h : s.Within p t) (r : Flagged) (hp : p.flags) : s.Within p (t.setAFlags r) :=
  h.setRegs _ (fun hn => absurd hp hn) (fun _ => rfl) (fun _ => rfl)

theorem State.Within.setPair (h : s.Within p t) (q : Pair) (w : Word) (hp : q = .sp → p.sp) :
    s.Within p (t.setRegs (t.regs.setPair q w)) := by
  cases q with
  | sp => exact h.setSp w (hp rfl)
  | bc | de | hl => exact h.setRegs _ (fun _ => rfl) (fun _ => rfl) (fun _ => rfl)

theorem State.Within.setStackPair (h : s.Within p t) (q : StackPair) (w : Word) (hp : q = .af → p.flags) :
    s.Within p (t.setRegs (t.regs.setStackPair q w)) := by
  cases q with
  | af => exact h.setRegs _ (fun hn => absurd (hp rfl) hn) (fun _ => rfl) (fun _ => rfl)
  | bc | de | hl => exact h.setRegs _ (fun _ => rfl) (fun _ => rfl) (fun _ => rfl)

theorem State.Within.writeOpnd (h : s.Within p t) (o : Opnd) (v : Byte) (hs : o = .indHl → p.stores) :
    s.Within p (t.writeOpnd o v) := by
  cases o with
  | reg r => exact h.setReg r v
  | indHl => exact h.memWrite _ v (hs rfl)

theorem State.Within.push16 (h : s.Within p t) (w : Word) (hs : p.stores) (hsp : p.sp) : s.Within p (t.push16 w) :=
  ((((h.setSp _ hsp).memWrite _ _ hs).setSp _ hsp).memWrite _ _ hs)

theorem State.Within.callTo (h : s.Within p t) (w : Word) (hs : p.stores) (hsp : p.sp) (hpc : p.pc) :
    s.Within p (t.callTo w) := (h.push16 _ hs hsp).setPc w hpc

theorem State.Within.returned (h : s.Within p t) (hsp : p.sp) (hpc : p.pc) : s.Within p t.returned :=
  (h.setSp _ hsp).setPc _ hpc

/-! ### The answers of the instructions -/

theorem setReg_within (r : Reg8) (v : Byte) (c : Nat) : Answer.Within p s ((s.setReg r v).done c) :=
  (State.Within.refl.setReg r v).done c

theorem memWrite_within (a : Word) (v : Byte) (c : Nat) (hs : p.stores) : Answer.Within p s ((s.memWrite a v).done c) :=
  (State.Within.refl.memWrite a v hs).done c

theorem memWrite16_within (a w : Word) (c : Nat) (hs : p.stores) : Answer.Within p s ((s.memWrite16 a w).done c) :=
  ((State.Within.refl.memWrite a _ hs).memWrite _ _ hs).done c

theorem setPc_within (w : Word) (c : Nat) (hpc : p.pc) : Answer.Within p s ((s.setPc w).done c) :=
  (State.Within.refl.setPc w hpc).done c

theorem setSp_within (w : Word) (c : Nat) (hsp : p.sp) : Answer.Within p s ((s.setSp w).done c) :=
  (State.Within.refl.setSp w hsp).done c

theorem setFlags_within (f : Flags) (c : Nat) (hf : p.flags) : Answer.Within p s ((s.setFlags f).done c) :=
  (State.Within.refl.setFlags f hf).done c

theorem setAFlags_within (r : Flagged) (c : Nat) (hf : p.flags) : Answer.Within p s ((s.setAFlags r).done c) :=
  (State.Within.refl.setAFlags r hf).done c

theorem setPair_within (q : Pair) (w : Word) (c : Nat) (hsp : q = .sp → p.sp) :
    Answer.Within p s ((s.setRegs (s.regs.setPair q w)).done c) := (State.Within.refl.setPair q w hsp).done c

theorem callTo_within (w : Word) (c : Nat) (hs : p.stores) (hsp : p.sp) (hpc : p.pc) :
    Answer.Within p s ((s.callTo w).done c) := (State.Within.refl.callTo w hs hsp hpc).done c

theorem returned_within (c : Nat) (hsp : p.sp) (hpc : p.pc) : Answer.Within p s (s.returned.done c) :=
  (State.Within.refl.returned hsp hpc).done c

theorem setMaster_within (b : Bool) (d c : Nat) (hp : p.master) :
    Answer.Within p s (State.done { s with ime := b, eiDelay := d } c) := (State.Within.refl.setMaster b d hp).done c

theorem loadAStep_within (w : Word) : Answer.Within p s (loadAStep w s) :=
  (State.Within.refl.setRegs ((s.regs.set .a (s.memRead s.regs.hl)).setHl (s.regs.hl + w)) (fun _ => rfl) (fun _ => rfl)
    (fun _ => rfl)).done 8

theorem storeAStep_within (w : Word) (hs : p.stores) : Answer.Within p s (storeAStep w s) :=
  ((State.Within.refl.memWrite s.regs.hl (s.reg .a) hs).setRegs
    ((s.memWrite s.regs.hl (s.reg .a)).regs.setHl (s.regs.hl + w)) (fun _ => rfl) (fun _ => rfl) (fun _ => rfl)).done 8

theorem addHlPair_within (q : Pair) (hf : p.flags) : Answer.Within p s (addHlPair q s) :=
  (State.Within.refl.setRegs { s.regs.setHl (s.regs.hl + s.regs.getPair q) with
    f := (addHlFlags s.regs.hl (s.regs.getPair q) s.flags).pack } (fun hn => absurd hf hn) (fun _ => rfl)
    (fun _ => rfl)).done 8

theorem addSpE8_within (e : Byte) (hf : p.flags) (hsp : p.sp) : Answer.Within p s (execAddSpE8 e s) :=
  (State.Within.refl.setRegs { s.regs with sp := s.regs.sp + sext16 e, f := (spOffsetFlags s.regs.sp e).pack }
    (fun hn => absurd hf hn) (fun hn => absurd hsp hn) (fun _ => rfl)).done 16

theorem ldHlSpE8_within (e : Byte) (hf : p.flags) : Answer.Within p s (execLdHlSpE8 e s) :=
  (State.Within.refl.setRegs { s.regs.setHl (s.regs.sp + sext16 e) with f := (spOffsetFlags s.regs.sp e).pack }
    (fun hn => absurd hf hn) (fun _ => rfl) (fun _ => rfl)).done 12

theorem pushPair_within (q : StackPair) (hs : p.stores) (hsp : p.sp) : Answer.Within p s (pushPair q s) :=
  (State.Within.refl.push16 _ hs hsp).done 16

theorem popPair_within (q : StackPair) (hf : q = .af → p.flags) (hsp : p.sp) : Answer.Within p s (popPair q s) :=
  ((State.Within.refl.setSp _ hsp).setStackPair q _ hf).done 12

theorem incOpnd_within (o : Opnd) (hf : p.flags) (hs : o = .indHl → p.stores) : Answer.Within p s (incOpnd o s) :=
  ((State.Within.refl.writeOpnd o _ hs).setFlags _ hf).done _

theorem decOpnd_within (o : Opnd) (hf : p.flags) (hs : o = .indHl → p.stores) : Answer.Within p s (decOpnd o s) :=
  ((State.Within.refl.writeOpnd o _ hs).setFlags _ hf).done _

theorem rotOpnd_within (op : RotOp) (o : Opnd) (hf : p.flags) (hs : o = .indHl → p.stores) :
    Answer.Within p s (rotOpnd op o s) := ((State.Within.refl.writeOpnd o _ hs).setFlags _ hf).done _

theorem resOpnd_within (b : Octal) (o : Opnd) (hs : o = .indHl → p.stores) : Answer.Within p s (resOpnd b o s) :=
  (State.Within.refl.writeOpnd o _ hs).done _

theorem setOpnd_within (b : Octal) (o : Opnd) (hs : o = .indHl → p.stores) : Answer.Within p s (setOpnd b o s) :=
  (State.Within.refl.writeOpnd o _ hs).done _

theorem jumpCond_within (cc : Cond) (w : Word) (hpc : p.pc) : Answer.Within p s (jumpCond cc w s) := by
  unfold jumpCond
  split
  · exact setPc_within w 16 hpc
  · exact State.Within.refl.done 12

theorem jumpRelCond_within (cc : Cond) (e : Byte) (hpc : p.pc) : Answer.Within p s (jumpRelCond cc e s) := by
  unfold jumpRelCond
  split
  · exact setPc_within _ 12 hpc
  · exact State.Within.refl.done 8

theorem callCond_within (cc : Cond) (w : Word) (hs : s.cond cc = true → p.stores) (hsp : p.sp) (hpc : p.pc) :
    Answer.Within p s (callCond cc w s) := by
  unfold callCond
  split
  · rename_i h
    exact callTo_within w 24 (hs h) hsp hpc
  · exact State.Within.refl.done 12

theorem retCond_within (cc : Cond) (hsp : p.sp) (hpc : p.pc) : Answer.Within p s (retCond cc s) := by
  unfold retCond
  split
  · exact returned_within 20 hsp hpc
  · exact State.Within.refl.done 8

theorem reti_within (hp : p.master) (hsp : p.sp) (hpc : p.pc) : Answer.Within p s (execReti s) :=
  ((State.Within.refl.returned hsp hpc).setMaster true 0 hp).done 16

theorem halt_within (hp : p.halt) : Answer.Within p s (execHalt s) := by
  rintro _ ⟨⟩
  exact { State.Within.refl (p := p) (s := s) with halted := fun hn => absurd hp hn }

theorem stop_within (b : Byte) (hp : p.stop) : Answer.Within p s (execStop b s) := by
  rintro _ ⟨⟩
  exact { State.Within.refl (p := p) (s := s) with stopped := fun hn => absurd hp hn }

theorem fatalStop_within (op : Byte) (hp : p.fatal) : Answer.Within p s (fatalStop op s) := by
  rintro _ ⟨⟩
  exact { State.Within.refl (p := p) (s := s) with fatal := fun hn => absurd hp hn }

end Within

/-! ### The instructions -/

/-- The model's condition is the spec's (R321). -/
theorem State.cond_eq_taken (s : State) (cc : Cond) : s.cond cc = Spec.taken s cc := by cases cc <;> rfl

section WritesFlags
variable {b : Byte} {rest : List Byte}

/-- The ALU operations on an operand `r` (R221). -/
theorem writesFlags_of_alu (h : b.toNat / 64 = 2) : Spec.writesFlags (b :: rest) := .inl h

/-- The ALU operations on an immediate (R221). -/
theorem writesFlags_of_aluImm (h : b.toNat / 64 = 3) (hz : b.toNat % 8 = 6) : Spec.writesFlags (b :: rest) :=
  .inr (.inl ⟨h, hz⟩)

/-- POP AF, ADD SP,e8 and LD HL,SP+e8 (R195, R264, R265). -/
theorem writesFlags_of_mem (h : b ∈ ([0xF1, 0xE8, 0xF8] : List Byte)) : Spec.writesFlags (b :: rest) :=
  .inr (.inr (.inl h))

/-- INC and DEC of a byte, the column of the accumulator operations, and ADD HL (R230 to R237, R263, R281 to R284). -/
theorem writesFlags_of_column (h : b.toNat / 64 = 0)
    (hz : b.toNat % 8 = 4 ∨ b.toNat % 8 = 5 ∨ b.toNat % 8 = 7 ∨ b.toNat % 16 = 9) : Spec.writesFlags (b :: rest) :=
  .inr (.inr (.inr (.inl ⟨h, hz⟩)))

/-- The CB rotates and shifts and BIT (R285, R294). -/
theorem writesFlags_of_cb {n : Byte} (h : n.toNat < 128) : Spec.writesFlags [0xCB, n] :=
  .inr (.inr (.inr (.inr ⟨rfl, n, List.mem_singleton_self n, h⟩)))

end WritesFlags

/-- A conditional call that is taken stores its return address (R328). -/
theorem callCond_stores {i : Instr} {lo hi : Byte} (s : State) (cc : Cond)
    (he : encode i = [BitVec.ofNat 8 (0xC4 + 8 * cc.code), lo, hi]) (h : s.cond cc = true) : Spec.storedTo i s ≠ [] := by
  rw [State.cond_eq_taken] at h
  cases cc <;> simp_all [Spec.storedTo, Spec.taken, Cond.code]

/-- The operand of a CB byte is the byte at HL for the code 6 alone (R143). -/
theorem mod_eight_of_opnd {n : Byte} (h : (fieldZ n).opnd = .indHl) : n.toNat % 8 = 6 := by
  have hcode : ∀ k < 8, (octalOf k).opnd = .indHl → k = 6 := by decide
  exact hcode _ (Nat.mod_lt _ (by decide)) h

/-- An instruction of the secondary table keeps to its footprint, by the fields of its second byte (R285): the rotates and
BIT write F, all but BIT store when the operand is the byte at HL. -/
theorem cb_within {i : Instr} {s : State} {n : Byte} (hi : encode i = [0xCB, n]) (hx : exec i s = cbByte n s) :
    Answer.Within (footprint i s) s (exec i s) := by
  have hflags : n.toNat < 128 → (footprint i s).flags := fun hn => by
    show Spec.writesFlags (encode i)
    rw [hi]
    exact writesFlags_of_cb hn
  have hstores : n.toNat / 64 ≠ 1 → (fieldZ n).opnd = .indHl → (footprint i s).stores := fun hb ho => by
    show Spec.storedTo i s ≠ []
    simp [Spec.storedTo, hi, mod_eight_of_opnd ho, hb]
  rw [hx]
  unfold cbByte
  split
  · exact rotOpnd_within _ _ (hflags (by omega)) (hstores (by omega))
  · exact setFlags_within _ _ (hflags (by omega))
  · exact resOpnd_within _ _ (hstores (by omega))
  · exact setOpnd_within _ _ (hstores (by omega))

/-- Every instruction keeps to the footprint that the rules give it. -/
theorem exec_within (i : Instr) (s : State) : Answer.Within (footprint i s) s (exec i s) := by
  cases i with
  | nop => exact State.Within.refl.done 4
  | ldBB | ldBC | ldBD | ldBE | ldBH | ldBL | ldBA | ldCB | ldCC | ldCD | ldCE | ldCH | ldCL | ldCA | ldDB | ldDC
    | ldDD | ldDE | ldDH | ldDL | ldDA | ldEB | ldEC | ldED | ldEE | ldEH | ldEL | ldEA | ldHB | ldHC | ldHD | ldHE
    | ldHH | ldHL | ldHA | ldLB | ldLC | ldLD | ldLE | ldLH | ldLL | ldLA | ldAB | ldAC | ldAD | ldAE | ldAH | ldAL
    | ldAA => exact setReg_within _ _ 4
  | ldBD8 n | ldAIndBc | ldCD8 n | ldDD8 n | ldAIndDe | ldED8 n | ldHD8 n | ldLD8 n | ldAD8 n | ldBIndHl | ldCIndHl
    | ldDIndHl | ldEIndHl | ldHIndHl | ldLIndHl | ldAIndHl | ldhAIndA8 n | ldAIndC | ldAIndA16 w =>
    exact setReg_within _ _ _
  | ldAIndHlInc | ldAIndHlDec => exact loadAStep_within _
  | ldIndBcA | ldIndDeA | ldIndHlB | ldIndHlC | ldIndHlD | ldIndHlE | ldIndHlH | ldIndHlL | ldIndHlA | ldhIndA8A n
    | ldIndCA | ldIndA16A w | ldIndHlD8 n => exact memWrite_within _ _ _ (List.cons_ne_nil _ _)
  | ldIndA16Sp w => exact memWrite16_within _ _ 20 (List.cons_ne_nil _ _)
  | ldIndHlIncA | ldIndHlDecA => exact storeAStep_within _ (List.cons_ne_nil _ _)
  | ldBcD16 w | ldDeD16 w | ldHlD16 w | incBc | incDe | incHl | decBc | decDe | decHl =>
    exact setPair_within _ _ _ nofun
  | ldSpD16 w | incSp | decSp => exact setPair_within _ _ _ fun _ => ⟨_, by decide, rfl⟩
  | ldSpHl => exact setSp_within _ 8 ⟨_, by decide, rfl⟩
  | pushBc | pushDe | pushHl | pushAf => exact pushPair_within _ (List.cons_ne_nil _ _) ⟨_, by decide, rfl⟩
  | popBc | popDe | popHl => exact popPair_within _ nofun ⟨_, by decide, rfl⟩
  | popAf => exact popPair_within _ (fun _ => writesFlags_of_mem (by decide)) ⟨_, by decide, rfl⟩
  | addAB | addAC | addAD | addAE | addAH | addAL | addAIndHl | addAA | adcAB | adcAC | adcAD | adcAE | adcAH
    | adcAL | adcAIndHl | adcAA | subB | subC | subD | subE | subH | subL | subIndHl | subA | sbcAB | sbcAC | sbcAD
    | sbcAE | sbcAH | sbcAL | sbcAIndHl | sbcAA | andB | andC | andD | andE | andH | andL | andIndHl | andA | xorB
    | xorC | xorD | xorE | xorH | xorL | xorIndHl | xorA | orB | orC | orD | orE | orH | orL | orIndHl | orA | cpB
    | cpC | cpD | cpE | cpH | cpL | cpIndHl | cpA => exact setAFlags_within _ _ (writesFlags_of_alu rfl)
  | addAD8 n | adcAD8 n | subD8 n | sbcAD8 n | andD8 n | xorD8 n | orD8 n | cpD8 n =>
    exact setAFlags_within _ 8 (writesFlags_of_aluImm rfl rfl)
  | incB | incC | incD | incE | incH | incL | incA =>
    exact incOpnd_within _ (writesFlags_of_column rfl (.inl rfl)) nofun
  | incIndHl => exact incOpnd_within _ (writesFlags_of_column rfl (.inl rfl)) fun _ => List.cons_ne_nil _ _
  | decB | decC | decD | decE | decH | decL | decA =>
    exact decOpnd_within _ (writesFlags_of_column rfl (.inr (.inl rfl))) nofun
  | decIndHl => exact decOpnd_within _ (writesFlags_of_column rfl (.inr (.inl rfl))) fun _ => List.cons_ne_nil _ _
  | rlca | rrca | rla | rra | daa | cpl =>
    exact setAFlags_within _ 4 (writesFlags_of_column rfl (.inr (.inr (.inl rfl))))
  | scf | ccf => exact setFlags_within _ 4 (writesFlags_of_column rfl (.inr (.inr (.inl rfl))))
  | addHlBc | addHlDe | addHlHl | addHlSp =>
    exact addHlPair_within _ (writesFlags_of_column rfl (.inr (.inr (.inr rfl))))
  | addSpE8 e => exact addSpE8_within _ (writesFlags_of_mem (by decide)) ⟨_, by decide, rfl⟩
  | ldHlSpE8 e => exact ldHlSpE8_within _ (writesFlags_of_mem (by decide))
  | jpNzA16 w | jpZA16 w | jpNcA16 w | jpCA16 w => exact jumpCond_within _ _ ⟨_, by decide, rfl⟩
  | jrNzE8 e | jrZE8 e | jrNcE8 e | jrCE8 e => exact jumpRelCond_within _ _ ⟨_, by decide, rfl⟩
  | jpA16 w | jrE8 e | jpHl => exact setPc_within _ _ ⟨_, by decide, rfl⟩
  | callNzA16 w | callZA16 w | callNcA16 w | callCA16 w =>
    exact callCond_within _ _ (callCond_stores s _ rfl) ⟨_, by decide, rfl⟩ ⟨_, by decide, rfl⟩
  | rst00 | rst08 | rst10 | rst18 | rst20 | rst28 | rst30 | rst38 | callA16 w =>
    exact callTo_within _ _ (List.cons_ne_nil _ _) ⟨_, by decide, rfl⟩ ⟨_, by decide, rfl⟩
  | retNz | retZ | retNc | retC => exact retCond_within _ ⟨_, by decide, rfl⟩ ⟨_, by decide, rfl⟩
  | ret => exact returned_within 16 ⟨_, by decide, rfl⟩ ⟨_, by decide, rfl⟩
  | reti => exact reti_within (.inr (.inr rfl)) ⟨_, by decide, rfl⟩ ⟨_, by decide, rfl⟩
  | di => exact setMaster_within false 0 4 (.inl rfl)
  | ei => exact setMaster_within s.ime 2 4 (.inr (.inl rfl))
  | halt => exact halt_within rfl
  | stop ignored => exact stop_within ignored ⟨ignored, rfl⟩
  | illegalD3 | illegalDB | illegalDD | illegalE3 | illegalE4 | illegalEB | illegalEC | illegalED | illegalF4
    | illegalFC | illegalFD => exact fatalStop_within _ ⟨_, by decide, rfl⟩
  | _ => exact cb_within rfl rfl

/-- Settles O43: the frame is what keeping to the footprint says. -/
theorem stateFrame : Obligations.StateFrame := by
  intro i s t h
  have hw := exec_within i s t h
  refine ⟨hw.fixed, fun hdi hei hreti => hw.master ?_, hw.halted, fun hstop => hw.stopped ?_, fun hill => hw.fatal ?_,
    fun hnone => hw.stores (not_not.mpr hnone), hw.flags, fun hsp => hw.sp ?_, fun hpc => hw.pc ?_⟩
  · rintro (rfl | rfl | rfl) <;> contradiction
  · exact fun ⟨b, hb⟩ => hstop b hb
  · exact fun ⟨b, hb, he⟩ => hill b hb he
  · exact fun ⟨b, hb, he⟩ => hsp b hb he
  · exact fun ⟨b, hb, he⟩ => hpc b hb he

end Sys2Proof.Machine

/-! Proofs of the family 20_memory: what the bus reads and writes, region by region, the echo, OAM DMA, the frame of memory,
and the forms of memory that a step keeps. -/

namespace Sys2Proof.Machine

/-! ## A read, region by region (R88) -/

section Read
variable {s : State} {a : Word}

/-- Under the overlay the boot ROM answers (R90). -/
theorem State.overlayByte_of_boot {rom : Vector Byte 256} (hrom : s.params.bootRom = some rom)
    (hboot : s.peek 0xFF50 = 0x00) {n : Nat} (h : n < 256) : s.overlayByte n = some rom[n] := by
  have hn : n ≤ 0x00FF := by omega
  simp [State.overlayByte, hrom, hboot, hn, h]

/-- Without a boot ROM, once BOOT is written, and from 0x0100 upward there is no overlay (R90). -/
theorem State.overlayByte_eq_none {n : Nat} (h : s.params.bootRom = none ∨ s.peek 0xFF50 ≠ 0x00 ∨ 0x00FF < n) :
    s.overlayByte n = none := by
  unfold State.overlayByte
  split
  · rfl
  · rename_i rom hrom
    refine if_neg fun ⟨hn, hboot⟩ => ?_
    obtain h | h | h := h
    · simp [hrom] at h
    · exact h hboot
    · omega

/-- Without an overlay the address map answers. -/
theorem State.memRead_of_no_overlay (h : s.params.bootRom = none ∨ s.peek 0xFF50 ≠ 0x00 ∨ 0x00FF < a.toNat) :
    s.memRead a = s.mapRead a.toNat := by
  rw [State.memRead, State.overlayByte_eq_none h]
  rfl

/-- Below 0x8000 the cartridge image answers (R91, R92, R93). -/
theorem State.memRead_rom (h : s.params.bootRom = none ∨ s.peek 0xFF50 ≠ 0x00 ∨ 0x00FF < a.toNat)
    (ha : a.toNat ≤ 0x7FFF) : s.memRead a = Memory.read .rom s.params.rom (s.romIndex a.toNat) := by
  rw [State.memRead_of_no_overlay h, State.mapRead, if_pos ha]

/-- In 0xA000..0xBFFF the external RAM answers (R94). -/
theorem State.memRead_eram (h1 : 0xA000 ≤ a.toNat) (h2 : a.toNat ≤ 0xBFFF) : s.memRead a = s.eramRead a.toNat := by
  rw [State.memRead_of_no_overlay (.inr (.inr (by omega))), State.mapRead, if_neg (by omega), if_pos ⟨h1, h2⟩]

/-- An address of the backing store reads as its byte, but for the three registers that are computed when read (R101). -/
theorem State.memRead_bus (ha : Store.holds .bus a.toNat = true) (hjoyp : a.toNat ≠ 0xFF00) (hstat : a.toNat ≠ 0xFF41)
    (hly : a.toNat ≠ 0xFF44) : s.memRead a = s.peek a.toNat := by
  simp only [Store.holds, Bool.or_eq_true, Bool.and_eq_true, decide_eq_true_eq] at ha
  rw [State.memRead_of_no_overlay (.inr (.inr (by omega))), State.mapRead, if_neg (by omega), if_neg (by omega),
    if_neg hjoyp, if_neg hstat, if_neg hly]

/-- A cartridge without a mapper reads its image flat (R93). -/
theorem State.romIndex_noMapper (h : s.params.cartKind = .noMapper) (n : Nat) : s.romIndex n = n % s.params.romSize := by
  rw [State.romIndex, h]

/-- The low window reads the fixed bank, whatever the cartridge (R91, R93). -/
theorem State.romIndex_low {n : Nat} (h : n ≤ 0x3FFF) : s.romIndex n = n % s.params.romSize := by
  unfold State.romIndex
  split
  · rfl
  · exact if_pos h

/-- The high window of a switchable cartridge reads the selected bank (R92). -/
theorem State.romIndex_high (hc : s.params.cartKind = .switchable) {n : Nat} (h : 0x4000 ≤ n) :
    s.romIndex n = (s.romBank * 16384 + (n - 0x4000)) % s.params.romSize := by
  rw [State.romIndex, hc]
  exact if_neg (by omega)

/-- When the external RAM is accessible (R94, R99). -/
theorem State.eramOpen_iff : s.eramOpen = true ↔ s.params.cartKind = .switchable ∧ s.mbc.ramEnable = true ∧
    s.mbc.mode = true ∧ 0 < s.params.ramBanks := by
  simp only [State.eramOpen, Bool.and_eq_true, decide_eq_true_eq, and_assoc]

end Read

/-- Settles O39: the overlay answers first, then the image by its index, or the external RAM when it is accessible. -/
theorem cartridgeReads : Obligations.CartridgeReads := by
  intro s a
  refine ⟨fun rom hrom hboot h => ?_, fun h => ⟨fun hn => ?_, fun h1 h2 hc => ?_, fun hn hc => ?_⟩,
    fun h1 h2 => ⟨fun hc hen hmode hbanks => ?_, fun h => ?_⟩⟩
  · rw [State.memRead, State.overlayByte_of_boot hrom hboot h]
    rfl
  · rw [State.memRead_rom h (by omega), State.romIndex_low hn]
  · rw [State.memRead_rom h h2, State.romIndex_high hc h1]
    cases hm : s.mbc.mode <;> simp [State.romBank, hm]
  · rw [State.memRead_rom h hn, State.romIndex_noMapper hc]
  · rw [State.memRead_eram h1 h2, State.eramRead, if_pos (State.eramOpen_iff.mpr ⟨hc, hen, hmode, hbanks⟩)]
    rfl
  · rw [State.memRead_eram h1 h2, State.eramRead, if_neg]
    rw [State.eramOpen_iff]
    rintro ⟨hc, hen, hmode, hbanks⟩
    obtain h | h | h | h := h <;> simp_all

/-! ## A write, region by region (R89) -/

/-- The other address of an echo pair, both ways (R100). -/
theorem echoAlias_eq_some {n b : Nat} : echoAlias n = some b ↔
    (0xC000 ≤ n ∧ n ≤ 0xDDFF ∧ b = n + 0x2000) ∨ (0xE000 ≤ n ∧ n ≤ 0xFDFF ∧ n = b + 0x2000) := by
  unfold echoAlias
  split
  · rw [Option.some.injEq]
    omega
  · split
    · rw [Option.some.injEq]
      omega
    · simp only [reduceCtorEq, false_iff]
      omega

/-- The registers whose write does more than store a byte (R89, second half). -/
def effectRegisters : List Nat := [0xFF07, 0xFF14, 0xFF19, 0xFF1E, 0xFF23, 0xFF46]

/-- The byte that a write of `v` to address `n` of the backing store leaves there (R42, R44, R60). -/
def storedByte (n : Nat) (v : Byte) : Byte :=
  if n = 0xFF00 then v &&& 0x30 else if n = 0xFF04 then 0x00 else if n = 0xFF41 then v &&& 0xF8 else v

theorem storedByte_of_ne {n : Nat} (v : Byte) (hjoyp : n ≠ 0xFF00) (hdiv : n ≠ 0xFF04) (hstat : n ≠ 0xFF41) :
    storedByte n v = v := by
  rw [storedByte, if_neg hjoyp, if_neg hdiv, if_neg hstat]

section Write
variable (s : State) {a : Word} (v : Byte)

/-- Below 0x8000 a write goes to the cartridge. -/
theorem State.memWrite_rom (ha : a.toNat ≤ 0x7FFF) : s.memWrite a v = s.cartWrite a.toNat v := if_pos ha

/-- In 0xA000..0xBFFF a write goes to the external RAM. -/
theorem State.memWrite_eram (h1 : 0xA000 ≤ a.toNat) (h2 : a.toNat ≤ 0xBFFF) : s.memWrite a v = s.eramWrite a.toNat v := by
  unfold State.memWrite
  rw [if_neg (by omega), if_pos ⟨h1, h2⟩]

/-- Everywhere else a write stores a byte and has its side effects. -/
theorem State.memWrite_bus (ha : Store.holds .bus a.toNat = true) :
    s.memWrite a v = (s.storeByte a.toNat v).writeEffects (s.peek a.toNat) a.toNat v := by
  simp only [Store.holds, Bool.or_eq_true, Bool.and_eq_true, decide_eq_true_eq] at ha
  unfold State.memWrite
  rw [if_neg (by omega), if_neg (by omega)]

/-- A write of LY changes nothing (R62). -/
theorem State.memWrite_ly (ha : a.toNat = 0xFF44) : s.memWrite a v = s := by
  rw [State.memWrite_bus s v (by rw [ha]; rfl), ha]
  rfl

/-- A cartridge without a mapper ignores a write (R89). -/
theorem State.cartWrite_noMapper (h : s.params.cartKind = .noMapper) (n : Nat) : s.cartWrite n v = s := by
  rw [State.cartWrite, h]

/-- A write to a switchable cartridge writes its bank registers (R95 to R98). -/
theorem State.cartWrite_switchable (h : s.params.cartKind = .switchable) (n : Nat) :
    s.cartWrite n v = { s with mbc := s.mbc.write n v } := by
  rw [State.cartWrite, h]

/-- A write to the cartridge changes the bank registers only. -/
theorem State.cartWrite_eq (n : Nat) : ∃ m, s.cartWrite n v = { s with mbc := m } := by
  unfold State.cartWrite
  split
  · exact ⟨s.mbc, rfl⟩
  · exact ⟨_, rfl⟩

/-- Outside the pairs of echo addresses and the registers with effects, a write has no side effect. -/
theorem State.writeEffects_none {old : Byte} {n : Nat} (hecho : echoAlias n = none) (hreg : n ∉ effectRegisters) :
    s.writeEffects old n v = s := by
  simp only [effectRegisters, List.mem_cons, List.not_mem_nil, or_false, not_or] at hreg
  obtain ⟨h1, h2, h3, h4, h5, h6⟩ := hreg
  unfold echoAlias at hecho
  split at hecho
  · cases hecho
  · rename_i hup
    split at hecho
    · cases hecho
    · rename_i hdown
      rw [State.writeEffects, if_neg hup, if_neg hdown, if_neg h1, if_neg h2, if_neg h3, if_neg h4, if_neg h5, if_neg h6]

/-- A write to one address of an echo pair stores its byte at the other too (R100). -/
theorem State.writeEffects_echo {old : Byte} {n b : Nat} (h : echoAlias n = some b) :
    s.writeEffects old n v = s.poke b v := by
  unfold State.writeEffects
  obtain ⟨h1, h2, rfl⟩ | ⟨h1, h2, rfl⟩ := echoAlias_eq_some.mp h
  · rw [if_pos ⟨h1, h2⟩]
  · rw [if_neg (by omega), if_pos ⟨h1, h2⟩, Nat.add_sub_cancel]

/-- An address that is no register of R89's case list stores the byte as written. -/
theorem State.storeByte_plain {n : Nat} (h : n ∉ ([0xFF00, 0xFF04, 0xFF41, 0xFF44] : List Nat)) :
    s.storeByte n v = s.poke n v := by
  simp only [List.mem_cons, List.not_mem_nil, or_false, not_or] at h
  obtain ⟨h1, h2, h3, h4⟩ := h
  rw [State.storeByte, if_neg h1, if_neg h2, if_neg h3, if_neg h4]

/-- A write to a plain address stores its byte alone (R101). -/
theorem State.memWrite_plain (h : Spec.plainAddress a.toNat) : s.memWrite a v = s.poke a.toNat v := by
  have hbus : Store.holds .bus a.toNat = true := Store.bus_holds (by obtain h | h | h := h <;> omega)
  have hecho : echoAlias a.toNat = none := by
    obtain h | h | h := h <;> rw [echoAlias, if_neg (by omega), if_neg (by omega)]
  have hreg : a.toNat ∉ effectRegisters ∧ a.toNat ∉ ([0xFF00, 0xFF04, 0xFF41, 0xFF44] : List Nat) := by
    simp only [effectRegisters, List.mem_cons, List.not_mem_nil, or_false, not_or]
    obtain h | h | ⟨-, -, h⟩ := h
    · omega
    · omega
    · simp only [List.mem_cons, List.not_mem_nil, or_false, not_or] at h
      omega
  rw [State.memWrite_bus s v hbus, State.storeByte_plain s v hreg.2, State.writeEffects_none _ v hecho hreg.1]

/-- A write to one address of an echo pair stores its byte at both (R100). -/
theorem State.memWrite_echo {b : Nat} (h : echoAlias a.toNat = some b) :
    s.memWrite a v = (s.poke a.toNat v).poke b v := by
  have hrange := echoAlias_eq_some.mp h
  have hreg : a.toNat ∉ ([0xFF00, 0xFF04, 0xFF41, 0xFF44] : List Nat) := by
    simp only [List.mem_cons, List.not_mem_nil, or_false, not_or]
    omega
  rw [State.memWrite_bus s v (Store.bus_holds (by omega)), State.storeByte_plain s v hreg, State.writeEffects_echo _ v h]

end Write

/-! ## The control registers -/

/-- Two bytes select the same timer period when their low two bits are the same (R423). -/
theorem field_low_two_eq (v w : Byte) : field v 0 2 = field w 0 2 ↔ v.extractLsb' 0 2 = w.extractLsb' 0 2 := by
  rw [← BitVec.toNat_inj]
  simp [field, BitVec.extractLsb'_toNat]

/-- A write to TAC restarts the timer's sub-count when it selects another period (R46, R423). -/
theorem State.memWrite_tac (s : State) (v : Byte) : s.memWrite 0xFF07 v = { s.poke 0xFF07 v with
    timaCount := if (s.peek 0xFF07).extractLsb' 0 2 = v.extractLsb' 0 2 then s.timaCount else 0 } := by
  show (if field (s.peek 0xFF07) 0 2 ≠ field v 0 2 then { s.poke 0xFF07 v with timaCount := 0 } else s.poke 0xFF07 v) = _
  by_cases h : field (s.peek 0xFF07) 0 2 = field v 0 2
  · rw [if_neg (not_not.mpr h), if_pos ((field_low_two_eq _ _).mp h)]
    rfl
  · rw [if_pos h, if_neg fun he => h ((field_low_two_eq _ _).mpr he)]

/-- A low bit of JOYP is pulled to 0 by its button of the direction group or by that of the action group, when the group is
selected (R111). -/
def State.joypPulled (s : State) (direction action : Bool) : Bool :=
  (!bitOf (s.peek 0xFF00) 4 && direction) || (!bitOf (s.peek 0xFF00) 5 && action)

/-- The four bits of a nibble put together from its bits. -/
theorem nibble_bits : ∀ r3 r2 r1 r0 : Bool,
    let v := BitVec.ofBool r3 ++ BitVec.ofBool r2 ++ BitVec.ofBool r1 ++ BitVec.ofBool r0
    v[3] = r3 ∧ v[2] = r2 ∧ v[1] = r1 ∧ v[0] = r0 := by decide

/-- The bits of JOYP as read: two 1s, the stored selection, and the buttons of the selected groups, inverted (R111). -/
theorem State.joypRead_bits (s : State) :
    (bitOf s.joypRead 7 = true ∧ bitOf s.joypRead 6 = true) ∧
    (bitOf s.joypRead 5 = bitOf (s.peek 0xFF00) 5 ∧ bitOf s.joypRead 4 = bitOf (s.peek 0xFF00) 4) ∧
    bitOf s.joypRead 3 = !s.joypPulled s.buttons.down s.buttons.start ∧
    bitOf s.joypRead 2 = !s.joypPulled s.buttons.up s.buttons.select ∧
    bitOf s.joypRead 1 = !s.joypPulled s.buttons.left s.buttons.b ∧
    bitOf s.joypRead 0 = !s.joypPulled s.buttons.right s.buttons.a := by
  unfold State.joypRead State.joypPulled
  cases h4 : (s.peek 0xFF00)[4] <;> cases h5 : (s.peek 0xFF00)[5] <;> simp [bitOf, h4, h5, nibble_bits]

/-- When a low bit of JOYP is pulled to 0, in the spec's words (R111). -/
theorem State.joypPulled_iff (s : State) (direction action : Bool) : s.joypPulled direction action = true ↔
    (Spec.bitAt s 0xFF00 4 = 0 ∧ direction = true) ∨ (Spec.bitAt s 0xFF00 5 = 0 ∧ action = true) := by
  simp [State.joypPulled, Spec.bitAt, bitOf]

/-- Settles O37: writes of the control registers, and the bits of the three that are computed when read. -/
theorem controlRegisters : Obligations.ControlRegisters := by
  intro s v
  have hjoyp : s.memRead 0xFF00 = s.joypRead := State.memRead_of_no_overlay (.inr (.inr (by decide)))
  have hstat : s.memRead 0xFF41 = s.statRead := State.memRead_of_no_overlay (.inr (.inr (by decide)))
  have hly : s.memRead 0xFF44 = s.lyRead := State.memRead_of_no_overlay (.inr (.inr (by decide)))
  refine ⟨rfl, rfl, s.memWrite_tac v, rfl, rfl, hly, ?_, ?_⟩
  · rw [hstat, State.statRead]
    cases s.ppu.mode <;> rfl
  · obtain ⟨⟨h7, h6⟩, ⟨h5, h4⟩, h3, h2, h1, h0⟩ := s.joypRead_bits
    have hlow : ∀ {b p : Bool} {q : Prop}, b = !p → (p = true ↔ q) → (b = false ↔ q) := fun hb hp => by simp [hb, hp]
    rw [hjoyp]
    exact ⟨h7, h6, h5, h4, hlow h3 (s.joypPulled_iff _ _), hlow h2 (s.joypPulled_iff _ _),
      hlow h1 (s.joypPulled_iff _ _), hlow h0 (s.joypPulled_iff _ _)⟩

/-! ## The bank registers and the external RAM -/

/-- RAM is enabled by the low nibble 0xA (R95). -/
theorem low_nibble_eq_iff (v : Byte) : v &&& 0x0F = 0x0A ↔ v.toNat % 16 = 0xA := by
  rw [← BitVec.toNat_inj, BitVec.toNat_and]
  exact iff_of_eq (congrArg (· = 0xA) (Nat.and_two_pow_sub_one_eq_mod v.toNat 4))

/-- The bank number 0 is coerced to 1 (R96). -/
theorem bank_coerced (v : Byte) : (if v.extractLsb' 0 5 = 0 then 1 else v.extractLsb' 0 5) =
    BitVec.ofNat 5 (max 1 (v.toNat % 32)) := by
  have hlow : v.extractLsb' 0 5 = BitVec.ofNat 5 (v.toNat % 32) := by
    apply BitVec.eq_of_toNat_eq
    simp [BitVec.extractLsb'_toNat]
  rw [hlow]
  by_cases h : v.toNat % 32 = 0
  · rw [h]
    rfl
  · have hne : BitVec.ofNat 5 (v.toNat % 32) ≠ 0 := fun he => h (by simpa using congrArg BitVec.toNat he)
    rw [if_neg hne, Nat.max_eq_right (by omega)]

/-- A write to the bank registers, by the address (R95 to R98). -/
theorem Mbc.write_spec (n : Nat) (v : Byte) (m : Mbc) :
    (n ≤ 0x1FFF → m.write n v = { m with ramEnable := decide (v.toNat % 16 = 0xA) }) ∧
    (0x2000 ≤ n → n ≤ 0x3FFF → m.write n v = { m with bankLo := BitVec.ofNat 5 (max 1 (v.toNat % 32)) }) ∧
    (0x4000 ≤ n → n ≤ 0x5FFF → m.write n v = { m with bankHi := BitVec.ofNat 2 (v.toNat % 4) }) ∧
    (0x6000 ≤ n → m.write n v = { m with mode := v.getLsbD 0 }) := by
  refine ⟨fun h => ?_, fun h1 h2 => ?_, fun h1 h2 => ?_, fun h => ?_⟩
  · rw [Mbc.write, if_pos h, decide_eq_decide.mpr (low_nibble_eq_iff v)]
  · rw [Mbc.write, if_neg (by omega), if_pos h2, bank_coerced]
  · have hhi : v.extractLsb' 0 2 = BitVec.ofNat 2 (v.toNat % 4) := by
      apply BitVec.eq_of_toNat_eq
      simp [BitVec.extractLsb'_toNat]
    rw [Mbc.write, if_neg (by omega), if_neg (by omega), if_pos h2, hhi]
  · rw [Mbc.write, if_neg (by omega), if_neg (by omega), if_neg (by omega)]
    rfl

section Eram
variable {s : State} {a : Word} (v : Byte)

/-- An accessible external RAM stores the byte (R99). -/
theorem State.eramWrite_open (h : s.eramOpen = true) (n : Nat) :
    s.eramWrite n v = { s with eram := Memory.write .eram s.eram (s.eramIndex n) v } := if_pos h

/-- A RAM that is not accessible ignores the write (R99). -/
theorem State.eramWrite_closed (h : s.eramOpen ≠ true) (n : Nat) : s.eramWrite n v = s := if_neg h

/-- A byte just written to an accessible external RAM reads back (R94, R99). -/
theorem State.memRead_eramWrite_same (hwf : Memory.wf .eram s.eram = true) (h : s.eramOpen = true)
    (h1 : 0xA000 ≤ a.toNat) (h2 : a.toNat ≤ 0xBFFF) : (s.eramWrite a.toNat v).memRead a = v := by
  rw [State.eramWrite_open v h, State.memRead_eram h1 h2]
  exact (if_pos h).trans (Memory.read_write_same _ v hwf)

end Eram

/-- Settles O40: a write below 0x8000 is a write to the bank registers or nothing, one to the window a store in the
external RAM or nothing. -/
theorem bankRegistersAndExternalRam : Obligations.BankRegistersAndExternalRam := by
  rintro s a v ⟨-, heram⟩
  obtain ⟨hen, hlo, hhi, hmode⟩ := Mbc.write_spec a.toNat v s.mbc
  refine ⟨fun hn hc => ?_, fun hc => ?_, fun h1 h2 => ?_⟩
  · rw [State.memWrite_rom s v hn, State.cartWrite_noMapper s v hc]
  · have hcart : a.toNat ≤ 0x7FFF → s.memWrite a v = { s with mbc := s.mbc.write a.toNat v } := fun hn => by
      rw [State.memWrite_rom s v hn, State.cartWrite_switchable s v hc]
    refine ⟨fun hn => ?_, fun h1 h2 => ?_, fun h1 h2 => ?_, fun h1 h2 => ?_⟩
    · rw [hcart (by omega), hen hn]
    · rw [hcart (by omega), hlo h1 h2]
    · rw [hcart (by omega), hhi h1 h2]
    · rw [hcart h2, hmode h1]
  · rw [State.memWrite_eram s v h1 h2, ← State.eramOpen_iff]
    refine ⟨fun hopen => ⟨_, State.eramWrite_open v hopen _, State.memRead_eramWrite_same v heram hopen h1 h2, ?_⟩,
      fun hclosed => State.eramWrite_closed v hclosed _⟩
    exact fun k hk => Memory.read_write_ne v heram hk

/-! ## What a read depends on -/

/-- What the read of `b` looks at besides the parameters, the bank registers and the external RAM is the same in `t` as in
`s`: the byte, the scanline and LYC for STAT, the buttons for JOYP, BOOT for the overlay. -/
theorem State.memRead_congr {s t : State} {b : Word} (hparams : t.params = s.params) (hppu : t.ppu = s.ppu)
    (hbuttons : t.buttons = s.buttons) (hmbc : t.mbc = s.mbc) (heram : t.eram = s.eram)
    (hpeek : t.peek b.toNat = s.peek b.toNat) (hlyc : b.toNat = 0xFF41 → t.peek 0xFF45 = s.peek 0xFF45)
    (hboot : b.toNat ≤ 0x00FF → t.peek 0xFF50 = s.peek 0xFF50) : t.memRead b = s.memRead b := by
  have hoverlay : t.overlayByte b.toNat = s.overlayByte b.toNat := by
    unfold State.overlayByte
    rw [hparams]
    split
    · rfl
    · by_cases hb : b.toNat ≤ 0x00FF
      · rw [hboot hb]
      · rw [if_neg fun h => hb h.1, if_neg fun h => hb h.1]
  have hmap : t.mapRead b.toNat = s.mapRead b.toNat := by
    generalize b.toNat = n at hpeek hlyc
    refine ite_congr rfl (fun _ => ?_) fun _ => ite_congr rfl (fun _ => ?_) fun _ => ite_congr rfl (fun hn => ?_) fun _ =>
      ite_congr rfl (fun hn => ?_) fun _ => ite_congr rfl (fun _ => ?_) fun _ => hpeek
    · unfold State.romIndex State.romBank
      rw [hparams, hmbc]
    · unfold State.eramRead State.eramOpen State.eramIndex
      rw [hparams, hmbc, heram]
    · rw [hn] at hpeek
      simp only [State.joypRead, hpeek, hbuttons]
    · rw [hn] at hpeek
      simp only [State.statRead, hpeek, hlyc hn, hppu]
    · rw [State.lyRead, hppu, State.lyRead]
  rw [State.memRead, State.memRead, hoverlay, hmap]

/-- A byte store changes the read of its own address, and of STAT or the overlay when it is to LYC or BOOT; no other. -/
theorem State.memRead_poke_ne {s : State} {n : Nat} {b : Word} (v : Byte) (hwf : Memory.wf .bus s.mem = true)
    (hb : b.toNat ≠ n) (hlyc : b.toNat = 0xFF41 → n ≠ 0xFF45) (hboot : b.toNat ≤ 0x00FF → n ≠ 0xFF50) :
    (s.poke n v).memRead b = s.memRead b :=
  State.memRead_congr rfl rfl rfl rfl rfl (s.peek_poke_ne v hwf hb) (fun h => s.peek_poke_ne v hwf (hlyc h).symm)
    (fun h => s.peek_poke_ne v hwf (hboot h).symm)

/-! ## OAM DMA (R102) -/

/-- The address of the `k`-th source byte. -/
def oamSource (v : Byte) (k : Nat) : Word := joinBytes v 0 + BitVec.ofNat 16 k

/-- A word as a number, from its two bytes. -/
theorem joinBytes_toNat (hi lo : Byte) : (joinBytes hi lo).toNat = hi.toNat * 256 + lo.toNat := by
  rw [joinBytes, BitVec.toNat_append, ← Nat.shiftLeft_add_eq_or_of_lt lo.isLt, Nat.shiftLeft_eq]

theorem oamSource_eq (v : Byte) (k : Nat) : oamSource v k = BitVec.ofNat 16 (v.toNat * 256 + k) := by
  apply BitVec.eq_of_toNat_eq
  rw [oamSource, BitVec.toNat_add, joinBytes_toNat]
  simp

theorem oamSource_toNat (v : Byte) {k : Nat} (hk : k < 160) : (oamSource v k).toNat = v.toNat * 256 + k := by
  have := v.isLt
  rw [oamSource_eq, BitVec.toNat_ofNat]
  omega

/-- The copy of the first `k` bytes keeps the canonical form, and each OAM byte below `k` holds what its source read before
the copy: a source inside OAM is copied to itself. -/
theorem State.oamCopy_peek {s : State} (hwf : Memory.wf .bus s.mem = true) (v : Byte) {k : Nat} (hk : k ≤ 160) :
    Memory.wf .bus (s.oamCopy v k).mem = true ∧ ∀ b, (s.oamCopy v k).peek b =
      if 0xFE00 ≤ b ∧ b < 0xFE00 + k then s.memRead (oamSource v (b - 0xFE00)) else s.peek b := by
  induction k with
  | zero => exact ⟨hwf, fun b => by rw [if_neg (by omega)]; rfl⟩
  | succ k ih =>
    obtain ⟨hwf', hpeek⟩ := ih (by omega)
    obtain ⟨m, hm⟩ := s.oamCopy_eq v k
    have hsource := oamSource_toNat v (k := k) (by omega)
    have hread : (s.oamCopy v k).memRead (oamSource v k) = s.memRead (oamSource v k) := by
      refine State.memRead_congr (by rw [hm]) (by rw [hm]) (by rw [hm]) (by rw [hm]) (by rw [hm]) ?_ (fun _ => ?_)
        (fun _ => ?_)
      · rw [hpeek, if_neg (by omega)]
      · rw [hpeek, if_neg (by omega)]
      · rw [hpeek, if_neg (by omega)]
    have hstep : s.oamCopy v (k + 1) = (s.oamCopy v k).poke (0xFE00 + k) (s.memRead (oamSource v k)) := by
      rw [← hread]
      rfl
    rw [hstep]
    refine ⟨State.poke_mem_wf _ _ hwf' (Store.bus_holds (by omega)), fun b => ?_⟩
    by_cases hb : b = 0xFE00 + k
    · rw [hb, State.peek_poke_same _ _ _ hwf', if_pos (by omega), Nat.add_sub_cancel_left]
    · rw [State.peek_poke_ne _ _ hwf' hb, hpeek]
      exact if_congr (by omega) rfl rfl

/-! ## The backing store after a write -/

/-- The store part of a write keeps the canonical form. -/
theorem State.storeByte_mem_wf {s : State} {n : Nat} (v : Byte) (hwf : Memory.wf .bus s.mem = true)
    (hn : Store.holds .bus n = true) : Memory.wf .bus (s.storeByte n v).mem = true :=
  State.storeByte_cases (fun t => Memory.wf .bus t.mem = true) s n v (fun _ => hwf) (fun _ => s.poke_mem_wf _ hwf hn)
    (fun _ => s.poke_mem_wf _ hwf hn)

/-- The store part of a write changes one byte, to the byte its register keeps (R42, R44, R60, R62). -/
theorem State.storeByte_peek {s : State} {n : Nat} (v : Byte) (hwf : Memory.wf .bus s.mem = true) (hly : n ≠ 0xFF44)
    (b : Nat) : (s.storeByte n v).peek b = if b = n then storedByte n v else s.peek b := by
  have hpoke : ∀ w, (s.poke n w).peek b = if b = n then w else s.peek b := fun w => Memory.read_write n b w hwf
  unfold State.storeByte storedByte
  split
  · exact hpoke _
  split
  · exact hpoke _
  split
  · exact hpoke _
  · exact hpoke v

/-- The side effects of a write change the other byte of an echo pair (R100), or OAM (R102), and no other byte. -/
theorem State.writeEffects_peek {s : State} (old : Byte) (n : Nat) (v : Byte) (hwf : Memory.wf .bus s.mem = true) (b : Nat) :
    (s.writeEffects old n v).peek b =
      if echoAlias n = some b then v
      else if n = 0xFF46 ∧ 0xFE00 ≤ b ∧ b ≤ 0xFE9F then s.memRead (oamSource v (b - 0xFE00))
      else s.peek b := by
  by_cases hdma : n = 0xFF46
  · subst hdma
    have hcopy : s.writeEffects old 0xFF46 v = s.oamCopy v 160 := rfl
    rw [hcopy, (State.oamCopy_peek hwf v (Nat.le_refl _)).2, if_neg (show echoAlias 0xFF46 ≠ some b from nofun)]
    exact if_congr (by omega) rfl rfl
  · have hoam : ¬ (n = 0xFF46 ∧ 0xFE00 ≤ b ∧ b ≤ 0xFE9F) := fun h => hdma h.1
    rw [if_neg hoam]
    cases he : echoAlias n with
    | some c =>
      rw [State.writeEffects_echo s v he]
      exact (Memory.read_write c b v hwf).trans (if_congr (eq_comm.trans Option.some_inj.symm) rfl rfl)
    | none =>
      rw [if_neg (show (none : Option Nat) ≠ some b from nofun)]
      refine State.writeEffects_cases (fun t => t.peek b = s.peek b) s old n v rfl (fun h1 h2 => ?_) (fun h1 h2 => ?_)
        (fun _ _ => rfl) (fun _ => rfl) (fun _ => rfl) (fun _ => rfl) (fun _ => rfl) (fun h => absurd h hdma)
      · simp [echoAlias, h1, h2] at he
      · rw [echoAlias, if_neg (by omega), if_pos ⟨h1, h2⟩] at he
        cases he

/-- The backing store after a bus write: the byte its register keeps, the byte itself at the other address of an echo pair,
the copied bytes in OAM, and every other byte as before (R89, R100, R102). -/
theorem State.peek_memWrite {s : State} {a : Word} {n : Nat} (v : Byte) (hwf : Memory.wf .bus s.mem = true)
    (hn : a.toNat = n) (hbus : Store.holds .bus n = true) (hly : n ≠ 0xFF44) (b : Nat) :
    (s.memWrite a v).peek b =
      if echoAlias n = some b then v
      else if n = 0xFF46 ∧ 0xFE00 ≤ b ∧ b ≤ 0xFE9F then (s.poke 0xFF46 v).memRead (oamSource v (b - 0xFE00))
      else if b = n then storedByte n v
      else s.peek b := by
  subst hn
  rw [State.memWrite_bus s v hbus, State.writeEffects_peek _ _ _ (State.storeByte_mem_wf v hwf hbus)]
  refine if_congr Iff.rfl rfl ?_
  split
  · rename_i h
    rw [h.1]
    rfl
  · exact State.storeByte_peek v hwf hly b

/-- A write outside the backing store, or to LY, leaves the backing store as it was. -/
theorem State.memWrite_mem_of_not_bus (s : State) {a : Word} (v : Byte)
    (h : ¬ Store.holds .bus a.toNat = true ∨ a.toNat = 0xFF44) : (s.memWrite a v).mem = s.mem := by
  obtain h | h := h
  · refine State.memWrite_cases (fun t => t.mem = s.mem) s a v (fun _ => ?_) (fun _ _ => ?_) (fun ha => absurd ha h)
    · obtain ⟨m, hm⟩ := s.cartWrite_eq v a.toNat
      rw [hm]
    · unfold State.eramWrite
      split <;> rfl
  · rw [State.memWrite_ly s v h]

/-- Settles O44: the byte is stored, and then each OAM byte is what its source reads. -/
theorem oamDmaCopies : Obligations.OamDmaCopies := by
  intro s v ⟨hwf, _⟩
  have hpeek := State.peek_memWrite (a := 0xFF46) (n := 0xFF46) v hwf rfl rfl (by decide)
  have hstored : ∀ b, b < 0xFE00 ∨ 0xFE9F < b →
      (s.memWrite 0xFF46 v).peek b = if b = 0xFF46 then v else s.peek b := fun b hb => by
    rw [hpeek, if_neg (show echoAlias 0xFF46 ≠ some b from nofun), if_neg (by omega)]
    rfl
  refine ⟨(s.poke 0xFF46 v).oamCopy_eq v 160, ?_, fun i hi => ?_, fun b hne hb => ?_⟩
  · rw [State.memRead_bus rfl (by decide) (by decide) (by decide), hstored _ (.inr (by decide))]
    rfl
  · rw [hpeek, if_neg (show echoAlias 0xFF46 ≠ some (0xFE00 + i) from nofun), if_pos ⟨rfl, by omega, by omega⟩,
      Nat.add_sub_cancel_left]
    have hsource := oamSource_toNat v hi
    have hv := v.isLt
    have hself : (oamSource v i).toNat = 0xFF46 ↔ v = 0xFF ∧ i = 0x46 := by
      rw [hsource, ← BitVec.toNat_inj]
      show v.toNat * 256 + i = 0xFF46 ↔ v.toNat = 0xFF ∧ i = 0x46
      omega
    by_cases h : (oamSource v i).toNat = 0xFF46
    · rw [if_pos (hself.mp h), State.memRead_bus (by rw [h]; rfl) (by omega) (by omega) (by omega), h,
        State.peek_poke_same _ _ _ hwf]
    · rw [if_neg fun he => h (hself.mpr he), State.memRead_poke_ne v hwf h nofun nofun, oamSource_eq]
  · rw [hstored b hb, if_neg hne]

/-! ## The frame of a bus write -/

/-- Replacing the bank registers changes no read outside the two switchable windows (R91, R92, R94). -/
theorem State.memRead_withMbc (s : State) (m : Mbc) {b : Word} (hrom : ¬ (0x4000 ≤ b.toNat ∧ b.toNat ≤ 0x7FFF))
    (heram : ¬ (0xA000 ≤ b.toNat ∧ b.toNat ≤ 0xBFFF)) : State.memRead { s with mbc := m } b = s.memRead b := by
  have hmap : State.mapRead { s with mbc := m } b.toNat = s.mapRead b.toNat := by
    refine ite_congr rfl (fun hn => ?_) fun _ => ite_congr rfl (fun hn => absurd hn heram) fun _ => rfl
    have hlow : b.toNat ≤ 0x3FFF := by omega
    rw [State.romIndex_low hlow, State.romIndex_low hlow]
  exact congrArg ((s.overlayByte b.toNat).getD ·) hmap

/-- A write to the external RAM changes the read of its own address only. -/
theorem State.memRead_eramWrite_ne {s : State} {n : Nat} {b : Word} (v : Byte) (hwf : Memory.wf .eram s.eram = true)
    (h1 : 0xA000 ≤ n) (hb : b.toNat ≠ n) : (s.eramWrite n v).memRead b = s.memRead b := by
  by_cases hopen : s.eramOpen = true
  · rw [State.eramWrite_open v hopen]
    refine congrArg ((s.overlayByte b.toNat).getD ·)
      (ite_congr rfl (fun _ => rfl) fun _ => ite_congr rfl (fun hn => ?_) fun _ => rfl)
    refine ite_congr rfl (fun _ => Memory.read_write_ne v hwf ?_) fun _ => rfl
    show s.eramIndex b.toNat ≠ s.eramIndex n
    unfold State.eramIndex
    omega
  · rw [State.eramWrite_closed v hopen]

/-- A write to the backing store leaves the bank registers and the external RAM alone. -/
theorem State.memWrite_bus_cart (s : State) {a : Word} (v : Byte) (ha : Store.holds .bus a.toNat = true) :
    (s.memWrite a v).mbc = s.mbc ∧ (s.memWrite a v).eram = s.eram := by
  rw [State.memWrite_bus s v ha]
  have hs : (s.storeByte a.toNat v).mbc = s.mbc ∧ (s.storeByte a.toNat v).eram = s.eram :=
    State.storeByte_cases (fun t => t.mbc = s.mbc ∧ t.eram = s.eram) s _ v (fun _ => ⟨rfl, rfl⟩) (fun _ => ⟨rfl, rfl⟩)
      (fun _ => ⟨rfl, rfl⟩)
  refine State.writeEffects_cases (fun t => t.mbc = s.mbc ∧ t.eram = s.eram) _ _ _ v hs (fun _ _ => hs) (fun _ _ => hs)
    (fun _ _ => hs) (fun _ => hs) (fun _ => hs) (fun _ => hs) (fun _ => hs) (fun _ => ?_)
  obtain ⟨m, hm⟩ := (s.storeByte a.toNat v).oamCopy_eq v 160
  rw [State.oamDma, hm]
  exact hs

/-- A write to the bank registers reaches the two switchable windows. -/
theorem writeReaches_rom {a b : Nat} (ha : a ≤ 0x7FFF) :
    writeReaches a b = false ↔ ¬ (0x4000 ≤ b ∧ b ≤ 0x7FFF) ∧ ¬ (0xA000 ≤ b ∧ b ≤ 0xBFFF) := by
  simp only [writeReaches, if_pos ha, Bool.or_eq_false_iff, ← Bool.decide_and, decide_eq_false_iff_not]

/-- What a write elsewhere, but to LY, reaches. -/
theorem writeReaches_bus {a b : Nat} (ha : ¬ a ≤ 0x7FFF) (hly : a ≠ 0xFF44) : writeReaches a b = false ↔
    b ≠ a ∧ echoAlias a ≠ some b ∧ ¬ (a = 0xFF45 ∧ b = 0xFF41) ∧ ¬ (a = 0xFF46 ∧ 0xFE00 ≤ b ∧ b ≤ 0xFE9F) ∧
      ¬ (a = 0xFF50 ∧ b ≤ 0x00FF) := by
  simp only [writeReaches, if_neg ha, if_neg hly, Bool.or_eq_false_iff, ← Bool.decide_and, decide_eq_false_iff_not,
    and_assoc, ne_eq]

/-- A bus write changes no read that it does not reach (R88, R89). -/
theorem State.memRead_memWrite_of_not_reaches {s : State} {a b : Word} (v : Byte) (hform : s.memoryForm)
    (h : writeReaches a.toNat b.toNat = false) : (s.memWrite a v).memRead b = s.memRead b := by
  obtain ⟨hwf, heram⟩ := hform
  by_cases hrom : a.toNat ≤ 0x7FFF
  · obtain ⟨m, hm⟩ := s.cartWrite_eq v a.toNat
    obtain ⟨hhigh, hwindow⟩ := (writeReaches_rom hrom).mp h
    rw [State.memWrite_rom s v hrom, hm]
    exact State.memRead_withMbc s m hhigh hwindow
  by_cases hly : a.toNat = 0xFF44
  · rw [State.memWrite_ly s v hly]
  obtain ⟨hself, hecho, hlyc, hdma, hboot⟩ := (writeReaches_bus hrom hly).mp h
  by_cases hwindow : a.toNat ≤ 0xBFFF ∧ 0xA000 ≤ a.toNat
  · rw [State.memWrite_eram s v hwindow.2 hwindow.1]
    exact State.memRead_eramWrite_ne v heram hwindow.2 hself
  have ha := a.isLt
  have hpeek : ∀ k, k ≠ a.toNat → echoAlias a.toNat ≠ some k → ¬ (a.toNat = 0xFF46 ∧ 0xFE00 ≤ k ∧ k ≤ 0xFE9F) →
      (s.memWrite a v).peek k = s.peek k := fun k h1 h2 h3 => by
    rw [State.peek_memWrite v hwf rfl (Store.bus_holds (by omega)) hly, if_neg h2, if_neg h3, if_neg h1]
  have hio : ∀ k, 0xFF00 ≤ k → echoAlias a.toNat ≠ some k := fun k hk he => by
    have := echoAlias_eq_some.mp he
    omega
  obtain ⟨hmbc, heram⟩ := s.memWrite_bus_cart v (Store.bus_holds (a := a.toNat) (by omega))
  exact State.memRead_congr (s.memWrite_params a v) (s.memWrite_ppu a v) (s.memWrite_buttons a v) hmbc heram
    (hpeek _ hself hecho hdma) (fun hb => hpeek _ (by omega) (hio _ (by omega)) (by omega))
    (fun hb => hpeek _ (by omega) (hio _ (by omega)) (by omega))

/-! ## What was written is what is read -/

/-- An address plus an offset that does not pass the end of the address space. -/
theorem toNat_add_word {a : Word} {k : Nat} (h : a.toNat + k < 0x10000) : (a + BitVec.ofNat 16 k).toNat = a.toNat + k := by
  rw [BitVec.toNat_add, BitVec.toNat_ofNat, Nat.mod_eq_of_lt (by omega : k < 2 ^ 16), Nat.mod_eq_of_lt h]

/-- An address minus an offset that does not pass its start. -/
theorem toNat_sub_word {a : Word} {k : Nat} (h : k ≤ a.toNat) : (a - BitVec.ofNat 16 k).toNat = a.toNat - k := by
  have ha := a.isLt
  rw [BitVec.toNat_sub, BitVec.toNat_ofNat, Nat.mod_eq_of_lt (by omega : k < 2 ^ 16)]
  omega

/-- A byte written to work RAM reads back, with or without an echo (R100, R101). -/
theorem State.memRead_memWrite_wram {s : State} {a : Word} (v : Byte) (hwf : Memory.wf .bus s.mem = true)
    (h1 : 0xC000 ≤ a.toNat) (h2 : a.toNat ≤ 0xFDFF) : (s.memWrite a v).memRead a = v := by
  have hbus : Store.holds .bus a.toNat = true := Store.bus_holds (by omega)
  rw [State.memRead_bus hbus (by omega) (by omega) (by omega), State.peek_memWrite v hwf rfl hbus (by omega),
    if_neg (by omega : ¬ (a.toNat = 0xFF46 ∧ _)), if_pos rfl, storedByte_of_ne v (by omega) (by omega) (by omega), ite_self]

/-- A byte written to one address of an echo pair reads back at the other (R100). -/
theorem State.memRead_memWrite_echo {s : State} {a b : Word} (v : Byte) (hwf : Memory.wf .bus s.mem = true)
    (h : echoAlias a.toNat = some b.toNat) : (s.memWrite a v).memRead b = v := by
  have hrange := echoAlias_eq_some.mp h
  rw [State.memRead_bus (Store.bus_holds (by omega)) (by omega) (by omega) (by omega),
    State.peek_memWrite v hwf rfl (Store.bus_holds (by omega)) (by omega), if_pos h]

/-- Settles O41: a plain byte alone, both bytes of an echo pair, and the two bytes of a word, the second of which leaves the
first. -/
theorem storedBytesReadBack : Obligations.StoredBytesReadBack := by
  rintro s a w v ⟨hwf, heram⟩
  refine ⟨fun h => ?_, fun h1 h2 => ?_, fun h1 h2 => ?_, fun h1 h2 => ?_⟩
  · have hplain := s.memWrite_plain v h
    refine ⟨hplain, ?_⟩
    obtain ⟨hjoyp, hstat, hly⟩ : a.toNat ≠ 0xFF00 ∧ a.toNat ≠ 0xFF41 ∧ a.toNat ≠ 0xFF44 := by
      obtain h | h | ⟨-, -, h⟩ := h
      · omega
      · omega
      · simp only [List.mem_cons, List.not_mem_nil, or_false, not_or] at h
        omega
    rw [State.memRead_bus (Store.bus_holds (by obtain h | h | h := h <;> omega)) hjoyp hstat hly, hplain]
    exact s.peek_poke_same _ v hwf
  · have hb : (a + 0x2000).toNat = a.toNat + 0x2000 := toNat_add_word (k := 0x2000) (by omega)
    have hecho : echoAlias a.toNat = some (a.toNat + 0x2000) := if_pos ⟨h1, h2⟩
    exact ⟨s.memWrite_echo v hecho, State.memRead_memWrite_wram v hwf h1 (by omega),
      State.memRead_memWrite_echo v hwf (hecho.trans (congrArg some hb.symm))⟩
  · have hb : (a - 0x2000).toNat = a.toNat - 0x2000 := toNat_sub_word (k := 0x2000) (by omega)
    have hecho : echoAlias a.toNat = some (a.toNat - 0x2000) := (if_neg (by omega)).trans (if_pos ⟨h1, h2⟩)
    exact ⟨s.memWrite_echo v hecho, State.memRead_memWrite_wram v hwf (by omega) h2,
      State.memRead_memWrite_echo v hwf (hecho.trans (congrArg some hb.symm))⟩
  · have hb : (a + 1).toNat = a.toNat + 1 := toNat_add_word (k := 1) (by omega)
    have hkept : writeReaches (a + 1).toNat a.toNat = false := by
      have hecho : echoAlias (a.toNat + 1) ≠ some a.toNat := fun he => by
        have := echoAlias_eq_some.mp he
        omega
      rw [hb, writeReaches_bus (by omega) (by omega)]
      exact ⟨by omega, hecho, by omega, by omega, by omega⟩
    have hlow : (s.memWrite16 a w).memRead a = loByte w :=
      (State.memRead_memWrite_of_not_reaches _ ⟨s.memWrite_mem_wf a _ hwf, s.memWrite_eram_wf a _ heram⟩ hkept).trans
        (State.memRead_memWrite_wram _ hwf h1 (by omega))
    have hhigh : (s.memWrite16 a w).memRead (a + 1) = hiByte w :=
      State.memRead_memWrite_wram _ (s.memWrite_mem_wf a _ hwf) (by omega) (by omega)
    exact ⟨hlow, hhigh, by rw [State.memRead16, hlow, hhigh, joinBytes_halves]⟩

/-! ## The rule of a step for properties of the backing store -/

/-- `P` speaks of the backing store alone, and every bus write that changes the store keeps it, as do the stores to DIV,
TIMA and IF, which are all that a step makes besides. -/
structure MemoryClosed (P : State → Prop) : Prop where
  congr : ∀ {t u : State}, P t → u.mem = t.mem → P u
  poke : ∀ (t : State) (n : Nat) (v : Byte), n = 0xFF04 ∨ n = 0xFF05 ∨ n = 0xFF0F → P t → P (t.poke n v)
  busWrite : ∀ (t : State) (a : Word) (v : Byte), Store.holds .bus a.toNat = true → a.toNat ≠ 0xFF44 → P t →
    P (t.memWrite a v)

namespace MemoryClosed

variable {P : State → Prop} (hP : MemoryClosed P)
include hP

theorem memWrite {t : State} (a : Word) (v : Byte) (h : P t) : P (t.memWrite a v) := by
  by_cases hbus : Store.holds .bus a.toNat = true
  · by_cases hly : a.toNat = 0xFF44
    · exact hP.congr h (t.memWrite_mem_of_not_bus v (.inr hly))
    · exact hP.busWrite t a v hbus hly h
  · exact hP.congr h (t.memWrite_mem_of_not_bus v (.inl hbus))

theorem raiseIrq {t : State} (k : Irq) (h : P t) : P (t.raiseIrq k) := by
  unfold State.raiseIrq
  split
  · exact hP.poke t _ _ (.inr (.inr rfl)) h
  · exact h

theorem interruptPhase {t : State} (h : P t) : P t.interruptPhase :=
  State.interruptPhase_induct P (fun _ h => hP.congr h rfl)
    (State.enterInterrupt_induct P (fun t v => hP.poke t _ v (.inr (.inr rfl))) (fun _ h => hP.congr h rfl)
      (fun _ _ h => hP.congr h rfl) (fun _ => hP.memWrite) (fun _ _ h => hP.congr h rfl) (fun _ h => hP.congr h rfl)) t h

theorem executed {t u : State} (hu : Executed t u) (h : P t) : P u := by
  have moves : ∀ {v}, Moves t v → P v := fun hm => hm.induct P (fun _ _ _ h => hP.congr h rfl) (fun _ => hP.memWrite) h
  cases hu with
  | moved c _ hm => exact hP.congr (moves hm) rfl
  | master b d c _ _ hm => exact hP.congr (moves hm) rfl
  | halted => exact hP.congr h rfl
  | stopped => exact hP.congr h rfl
  | fatal op => exact hP.congr h rfl

theorem endStep {t : State} (t0 : Nat) (h : P t) : P (t.endStep t0) := by
  have hadv : P { t with mem := (t.advanceTimers (t.ticks - t0)).mem } :=
    State.advanceTimers_mem_induct (fun m => P { t with mem := m })
      (fun m a v ha hm => hP.congr (hP.poke { t with mem := m } a v ha hm) rfl) t _ h
  exact hP.congr hadv rfl

theorem afterExec {t : State} (t0 : Nat) (h : P t) : P (t.afterExec t0) := by
  unfold State.afterExec
  split
  · exact h
  · obtain ⟨b, d, -, he⟩ := t.eiRule_eq
    exact hP.endStep t0 (he ▸ hP.congr h rfl)

theorem ppuPhase {t : State} (h : P t) : P t.ppuPhase := by
  unfold State.ppuPhase
  split
  · exact h
  · exact State.ppuStep_induct P (fun _ _ h => hP.congr h rfl) (fun _ k => hP.raiseIrq k) t h

/-- A machine step keeps what its stores keep. -/
theorem of_step {s t : State} (hst : step s = .next t) (h : P s) : P t := by
  have hint : P s.interruptPhase := hP.interruptPhase h
  obtain ⟨-, ⟨-, rfl⟩ | ⟨-, u, hu, -, rfl⟩⟩ := step_cases hst
  · exact hP.ppuPhase (hP.endStep _ (hP.congr hint rfl))
  · exact hP.ppuPhase (hP.afterExec _ (hP.executed hu (hP.congr hint rfl)))

end MemoryClosed

/-! ## The canonical form, the echo and the stored bits -/

/-- The external RAM's canonical form is kept by every action of a step: only a bus write stores to it. -/
theorem State.eramForm_stepClosed : StepClosed fun s => Memory.wf .eram s.eram = true where
  cpu _ _ _ _ _ _ h := h
  memWrite t a v h := t.memWrite_eram_wf a v h
  timers _ _ _ _ h := h
  ppu _ _ _ h := h
  counted _ _ h := h
  stop _ h := h
  fatal _ _ h := h

/-- A step keeps both stores in canonical form. -/
theorem step_memoryForm {s t : State} (h : step s = .next t) (hs : s.memoryForm) : t.memoryForm := by
  obtain ⟨hmem, heram⟩ := hs
  exact ⟨step_mem_induct (fun m => Memory.wf .bus m = true) (fun _ _ v ha hm => Memory.wf_write v hm ha) h hmem,
    State.eramForm_stepClosed.of_step h heram⟩

/-- A bus write keeps the echo equality: it stores to both addresses of a pair, or to neither (R100). -/
theorem State.echoForm_busWrite {s : State} {a : Word} (v : Byte) (hbus : Store.holds .bus a.toNat = true)
    (hly : a.toNat ≠ 0xFF44) (hwf : Memory.wf .bus s.mem = true) (h : s.echoForm) : (s.memWrite a v).echoForm := by
  intro k hlow hhigh
  have hdma : ∀ b, b < 0xFE00 → ¬ (a.toNat = 0xFF46 ∧ 0xFE00 ≤ b ∧ b ≤ 0xFE9F) := fun b hb => by omega
  have hup := echoAlias_eq_some (n := a.toNat) (b := k + 0x2000)
  have hdown := echoAlias_eq_some (n := a.toNat) (b := k)
  rw [State.peek_memWrite v hwf rfl hbus hly, State.peek_memWrite v hwf rfl hbus hly, if_neg (hdma k (by omega)),
    if_neg (hdma _ (by omega))]
  by_cases h1 : a.toNat = k
  · rw [if_neg (mt hdown.mp (by omega)), if_pos h1.symm, if_pos (hup.mpr (by omega)),
      storedByte_of_ne v (by omega) (by omega) (by omega)]
  by_cases h2 : a.toNat = k + 0x2000
  · rw [if_pos (hdown.mpr (by omega)), if_neg (mt hup.mp (by omega)), if_pos h2.symm,
      storedByte_of_ne v (by omega) (by omega) (by omega)]
  · rw [if_neg (mt hdown.mp (by omega)), if_neg (Ne.symm h1), if_neg (mt hup.mp (by omega)), if_neg (Ne.symm h2)]
    exact h k hlow hhigh

/-- The echo equality over memory in canonical form is kept by every store of a step. -/
theorem State.echoForm_memoryClosed : MemoryClosed fun s => Memory.wf .bus s.mem = true ∧ s.echoForm where
  congr h he := by simpa only [State.echoForm, State.peek, he] using h
  poke t n v hn h := by
    obtain ⟨hwf, hecho⟩ := h
    refine ⟨t.poke_mem_wf v hwf (Store.bus_holds (by omega)), fun k hlow hhigh => ?_⟩
    rw [t.peek_poke_ne v hwf (by omega), t.peek_poke_ne v hwf (by omega)]
    exact hecho k hlow hhigh
  busWrite t a v hbus hly h := ⟨t.memWrite_mem_wf a v h.1, State.echoForm_busWrite v hbus hly h.1 h.2⟩

/-- JOYP stores bits 5 and 4 only (R42). -/
theorem joyp_stored_bits (v : Byte) : v &&& 0x30 &&& 0xCF = 0 := by
  rw [BitVec.and_assoc]
  exact BitVec.and_zero

/-- STAT stores bits 7 to 3 only (R60). -/
theorem stat_stored_bits (v : Byte) : v &&& 0xF8 &&& 0x07 = 0 := by
  rw [BitVec.and_assoc]
  exact BitVec.and_zero

/-- A bus write to JOYP or STAT masks the bits these do not store (R42, R60); no other reaches the two. -/
theorem State.storedBitsForm_busWrite {s : State} {a : Word} (v : Byte) (hbus : Store.holds .bus a.toNat = true)
    (hly : a.toNat ≠ 0xFF44) (hwf : Memory.wf .bus s.mem = true) (h : s.storedBitsForm) :
    (s.memWrite a v).storedBitsForm := by
  obtain ⟨hjoyp, hstat⟩ := h
  have hpeek : ∀ b, 0xFF00 ≤ b →
      (s.memWrite a v).peek b = if b = a.toNat then storedByte a.toNat v else s.peek b := fun b hb => by
    have hecho := echoAlias_eq_some (n := a.toNat) (b := b)
    rw [State.peek_memWrite v hwf rfl hbus hly, if_neg (mt hecho.mp (by omega)), if_neg (by omega)]
  unfold State.storedBitsForm
  rw [hpeek _ (by decide), hpeek _ (by decide)]
  constructor
  · split
    · rename_i ha
      rw [← ha]
      exact joyp_stored_bits v
    · exact hjoyp
  · split
    · rename_i ha
      rw [← ha]
      exact stat_stored_bits v
    · exact hstat

/-- The stored bits of JOYP and STAT over memory in canonical form are kept by every store of a step. -/
theorem State.storedBitsForm_memoryClosed : MemoryClosed fun s => Memory.wf .bus s.mem = true ∧ s.storedBitsForm where
  congr h he := by simpa only [State.storedBitsForm, State.peek, he] using h
  poke t n v hn h := by
    obtain ⟨hwf, hjoyp, hstat⟩ := h
    refine ⟨t.poke_mem_wf v hwf (Store.bus_holds (by omega)), ?_⟩
    rw [State.storedBitsForm, t.peek_poke_ne v hwf (by omega), t.peek_poke_ne v hwf (by omega)]
    exact ⟨hjoyp, hstat⟩
  busWrite t a v hbus hly h := ⟨t.memWrite_mem_wf a v h.1, State.storedBitsForm_busWrite v hbus hly h.1 h.2⟩

/-- Settles O57: every store of a step keeps the three forms. -/
theorem stepKeepsMemory : Obligations.StepKeepsMemory := fun _ _ hstep hs =>
  ⟨step_memoryForm hstep hs, fun hecho => (State.echoForm_memoryClosed.of_step hstep ⟨hs.1, hecho⟩).2,
    fun hbits => (State.storedBitsForm_memoryClosed.of_step hstep ⟨hs.1, hbits⟩).2⟩

/-! ## The frame of memory, instruction by instruction -/

/-- `t` reads as `s` does at every address that no write to an address of `as` reaches. -/
structure State.ReadsKept (as : List Word) (s t : State) : Prop where
  form : t.memoryForm
  read : ∀ b : Word, (∀ a ∈ as, writeReaches a.toNat b.toNat = false) → t.memRead b = s.memRead b

/-- An answer that, if it is a next state, is one that keeps those reads. -/
def Answer.ReadsKept (as : List Word) (s : State) (r : Answer) : Prop := ∀ t, r = .next t → s.ReadsKept as t

section ReadsKept
variable {as : List Word} {s t : State}

theorem State.ReadsKept.refl (h : s.memoryForm) : s.ReadsKept as s := ⟨h, fun _ _ => rfl⟩

theorem State.ReadsKept.setRegs (h : s.ReadsKept as t) (g : Regs) : s.ReadsKept as (t.setRegs g) := ⟨h.form, h.read⟩

theorem State.ReadsKept.done (h : s.ReadsKept as t) (c : Nat) : Answer.ReadsKept as s (t.done c) := by
  rintro _ ⟨⟩
  exact ⟨h.form, h.read⟩

/-- A bus write to one of the addresses. -/
theorem State.ReadsKept.memWrite (h : s.ReadsKept as t) {a : Word} (v : Byte) (ha : a ∈ as) :
    s.ReadsKept as (t.memWrite a v) := by
  obtain ⟨hform, hread⟩ := h
  exact ⟨⟨t.memWrite_mem_wf a v hform.1, t.memWrite_eram_wf a v hform.2⟩,
    fun b hb => (State.memRead_memWrite_of_not_reaches v hform (hb a ha)).trans (hread b hb)⟩

/-- A push stores at the two addresses below SP (R193, R327). -/
theorem State.ReadsKept.push16 (h : s.ReadsKept as t) (w : Word) (h1 : t.regs.sp - 1 ∈ as) (h2 : t.regs.sp - 2 ∈ as) :
    s.ReadsKept as (t.push16 w) := by
  have hhigh := (h.setRegs { t.regs with sp := t.regs.sp - 1 }).memWrite (hiByte w) h1
  have hsp : (t.pushByte (hiByte w)).regs.sp - 1 = t.regs.sp - 2 := by
    have htwo : t.regs.sp - 1 - 1 = t.regs.sp - 2 := by bv_omega
    simpa [State.pushByte] using htwo
  exact (State.ReadsKept.setRegs hhigh _).memWrite (loByte w) (hsp ▸ h2)

theorem State.ReadsKept.writeOpnd (h : s.ReadsKept as t) (o : Opnd) (v : Byte) (ho : o = .indHl → t.regs.hl ∈ as) :
    s.ReadsKept as (t.writeOpnd o v) := by
  cases o with
  | reg r => exact h.setRegs _
  | indHl => exact h.memWrite v (ho rfl)

end ReadsKept

section Stores
variable {as : List Word} {s : State} (hs : s.memoryForm)
include hs

theorem memWrite_readsKept {a : Word} (v : Byte) (c : Nat) (ha : a ∈ as) :
    Answer.ReadsKept as s ((s.memWrite a v).done c) := ((State.ReadsKept.refl hs).memWrite v ha).done c

theorem storeAStep_readsKept (w : Word) (ha : s.regs.hl ∈ as) : Answer.ReadsKept as s (storeAStep w s) :=
  (((State.ReadsKept.refl hs).memWrite (s.reg .a) ha).setRegs _).done 8

theorem pushPair_readsKept (p : StackPair) (h1 : s.regs.sp - 1 ∈ as) (h2 : s.regs.sp - 2 ∈ as) :
    Answer.ReadsKept as s (pushPair p s) := ((State.ReadsKept.refl hs).push16 _ h1 h2).done 16

theorem callTo_readsKept (w : Word) (c : Nat) (h1 : s.regs.sp - 1 ∈ as) (h2 : s.regs.sp - 2 ∈ as) :
    Answer.ReadsKept as s ((s.callTo w).done c) := (((State.ReadsKept.refl hs).push16 _ h1 h2).setRegs _).done c

theorem updateOpnd_readsKept (o : Opnd) (r : Flagged) (c : Nat) (ho : o = .indHl → s.regs.hl ∈ as) :
    Answer.ReadsKept as s ((s.updateOpnd o r).done c) := (((State.ReadsKept.refl hs).writeOpnd o _ ho).setRegs _).done c

/-- A conditional call stores its return address when it is taken (R328). -/
theorem callCond_readsKept (cc : Cond) (w : Word)
    (h : Spec.taken s cc = true → s.regs.sp - 1 ∈ as ∧ s.regs.sp - 2 ∈ as) :
    Answer.ReadsKept as s (callCond cc w s) := by
  unfold callCond
  split
  · rename_i hc
    obtain ⟨h1, h2⟩ := h (s.cond_eq_taken cc ▸ hc)
    exact callTo_readsKept hs w 24 h1 h2
  · exact (State.ReadsKept.refl hs).done 12

end Stores

/-- The high page is the spec's `0xFF00 + n` (R147). -/
theorem highPage_eq (n : Byte) : highPage n = 0xFF00 + n.zeroExtend 16 := by
  apply BitVec.eq_of_toNat_eq
  have hn := n.isLt
  rw [highPage, joinBytes_toNat, BitVec.toNat_add, BitVec.toNat_setWidth]
  show 0xFF * 256 + n.toNat = (0xFF00 + n.toNat % 2 ^ 16) % 2 ^ 16
  omega

/-- An instruction of the secondary table stores, if it does, at HL: when its operand is the byte there, BIT apart (R285). -/
theorem cb_readsKept {i : Instr} {s : State} {n : Byte} (hs : s.memoryForm) (hi : encode i = [0xCB, n])
    (hx : exec i s = cbByte n s) : Answer.ReadsKept (Spec.storedTo i s) s (exec i s) := by
  have hhl : n.toNat / 64 ≠ 1 → (fieldZ n).opnd = .indHl → s.regs.hl ∈ Spec.storedTo i s := fun hbit ho => by
    simp [Spec.storedTo, hi, mod_eight_of_opnd ho, hbit]
  rw [hx]
  unfold cbByte
  split
  · exact updateOpnd_readsKept hs _ _ _ (hhl (by omega))
  · exact ((State.ReadsKept.refl hs).setRegs _).done _
  · exact ((State.ReadsKept.refl hs).writeOpnd _ _ (hhl (by omega))).done _
  · exact ((State.ReadsKept.refl hs).writeOpnd _ _ (hhl (by omega))).done _

/-- A conditional call that is taken stores at the two addresses below SP (R328). -/
theorem callCond_storedTo {i : Instr} {lo hi : Byte} (s : State) (cc : Cond)
    (he : encode i = [BitVec.ofNat 8 (0xC4 + 8 * cc.code), lo, hi]) (h : Spec.taken s cc = true) :
    s.regs.sp - 1 ∈ Spec.storedTo i s ∧ s.regs.sp - 2 ∈ Spec.storedTo i s := by
  cases cc <;> simp_all [Spec.storedTo, Spec.taken, Cond.code]

/-- An instruction that stores nothing keeps every read. -/
theorem exec_readsKept_of_stores_nothing {i : Instr} {s : State} (hs : s.memoryForm) (hi : Spec.storedTo i s = []) :
    Answer.ReadsKept (Spec.storedTo i s) s (exec i s) := by
  intro t ht
  obtain ⟨⟨hppu, -, hbuttons, hparams⟩, -, -, -, -, hstores, -⟩ := stateFrame i s t ht
  obtain ⟨hmem, heram, hmbc, -⟩ := hstores hi
  have hpeek : ∀ k, t.peek k = s.peek k := fun k => congrArg (Memory.read .bus · k) hmem
  exact ⟨by rwa [State.memoryForm, hmem, heram], fun b _ =>
    State.memRead_congr hparams hppu hbuttons hmbc heram (hpeek _) (fun _ => hpeek _) (fun _ => hpeek _)⟩

/-- Every instruction keeps every read that its stores do not reach. -/
theorem exec_readsKept (i : Instr) {s : State} (hs : s.memoryForm) :
    Answer.ReadsKept (Spec.storedTo i s) s (exec i s) := by
  cases i with
  | ldIndBcA | ldIndDeA | ldIndHlB | ldIndHlC | ldIndHlD | ldIndHlE | ldIndHlH | ldIndHlL | ldIndHlA | ldIndHlD8 n =>
    exact memWrite_readsKept hs _ _ (List.mem_singleton_self _)
  | ldhIndA8A n => exact memWrite_readsKept hs _ _ (List.mem_singleton.mpr (highPage_eq n))
  | ldIndCA => exact memWrite_readsKept hs _ _ (List.mem_singleton.mpr (highPage_eq _))
  | ldIndA16A w => exact memWrite_readsKept hs _ _ (List.mem_singleton.mpr (joinBytes_halves w).symm)
  | ldIndA16Sp w =>
    have h : Spec.storedTo (.ldIndA16Sp w) s = [w, w + 1] := by
      have hw := joinBytes_halves w
      exact congrArg (fun x => [x, x + 1]) hw
    rw [h]
    exact (((State.ReadsKept.refl hs).memWrite _ (by simp)).memWrite _ (by simp)).done 20
  | ldIndHlIncA | ldIndHlDecA => exact storeAStep_readsKept hs _ (List.mem_singleton_self _)
  | incIndHl | decIndHl => exact updateOpnd_readsKept hs _ _ _ fun _ => List.mem_singleton_self _
  | pushBc | pushDe | pushHl | pushAf =>
    exact pushPair_readsKept hs _ List.mem_cons_self (List.mem_cons_of_mem _ List.mem_cons_self)
  | rst00 | rst08 | rst10 | rst18 | rst20 | rst28 | rst30 | rst38 | callA16 w =>
    exact callTo_readsKept hs _ _ List.mem_cons_self (List.mem_cons_of_mem _ List.mem_cons_self)
  | callNzA16 w | callZA16 w | callNcA16 w | callCA16 w =>
    exact callCond_readsKept hs _ _ (callCond_storedTo s _ rfl)
  | prefixCb n | cbRlcIndHl | cbRrcIndHl | cbRlIndHl | cbRrIndHl | cbSlaIndHl | cbSraIndHl | cbSwapIndHl | cbSrlIndHl
    | cbRes0IndHl | cbRes1IndHl | cbRes2IndHl | cbRes3IndHl | cbRes4IndHl | cbRes5IndHl | cbRes6IndHl | cbRes7IndHl
    | cbSet0IndHl | cbSet1IndHl | cbSet2IndHl | cbSet3IndHl | cbSet4IndHl | cbSet5IndHl | cbSet6IndHl | cbSet7IndHl =>
    exact cb_readsKept hs rfl rfl
  | _ => exact exec_readsKept_of_stores_nothing hs rfl

/-- Settles O42: the frame is what keeping the reads says. -/
theorem memoryFrame : Obligations.MemoryFrame := fun i _ t hs h => (exec_readsKept i hs t h).read

end Sys2Proof.Machine

/-! Proofs of the family 30_encoding: decoding and encoding are inverse to each other, the length and the cost of an
instruction follow from its bytes, the 11 illegal bytes, and the step that runs the bytes at PC. -/

namespace Sys2Proof.Machine

/-! ## A byte by its fields (R143) -/

/-- The byte with the fields x, y and z. -/
def fieldByte (x : Nat) (y z : Octal) : Byte := BitVec.ofNat 8 (64 * x + 8 * y.toNat + z.toNat)

theorem octalOf_toNat {k : Nat} (hk : k < 8) : (octalOf k).toNat = k := by
  have h : ∀ k < 8, (octalOf k).toNat = k := by decide
  exact h k hk

/-- A byte is its three fields. -/
theorem fieldByte_eq {b : Byte} {x : Nat} (hx : b.toNat / 64 = x) : fieldByte x (fieldY b) (fieldZ b) = b := by
  have hy : (fieldY b).toNat = b.toNat / 8 % 8 := octalOf_toNat (Nat.mod_lt _ (by decide))
  have hz : (fieldZ b).toNat = b.toNat % 8 := octalOf_toNat (Nat.mod_lt _ (by decide))
  have hsum : 64 * x + 8 * (fieldY b).toNat + (fieldZ b).toNat = b.toNat := by omega
  rw [fieldByte, hsum, BitVec.ofNat_toNat, BitVec.setWidth_eq]

/-- The field x has four values. -/
theorem quarter_cases (b : Byte) : b.toNat / 64 = 0 ∨ b.toNat / 64 = 1 ∨ b.toNat / 64 = 2 ∨ b.toNat / 64 = 3 := by
  have hb := b.isLt
  omega

@[simp] theorem loByte_joinBytes (hi lo : Byte) : loByte (joinBytes hi lo) = lo := by
  rw [loByte, joinBytes, BitVec.extractLsb'_append_eq_right]

@[simp] theorem hiByte_joinBytes (hi lo : Byte) : hiByte (joinBytes hi lo) = hi := by
  rw [hiByte, joinBytes, BitVec.extractLsb'_append_eq_left]

/-! ## What three bytes decode to -/

/-- `i` is a whole instruction, encoded as the first of these bytes: as many as its byte 0 says (R153). -/
def ReadFrom (b n m : Byte) (i : Instr) : Prop := i.wf = true ∧ encode i = [b, n, m].take (opcodeLength b)

/-- The first quarter of the opcode map (R148). -/
theorem decodeX0_readFrom (y z : Octal) (w : Word) :
    ReadFrom (fieldByte 0 y z) (loByte w) (hiByte w) (decodeX0 y z (loByte w) w) := by
  cases z <;> cases y <;> exact ⟨rfl, rfl⟩

/-- The loads between registers, and HALT in the slot of LD (HL),(HL) (R144). -/
theorem mkLd_readFrom (y z : Octal) (n m : Byte) : ReadFrom (fieldByte 1 y z) n m (.mkLd y.opnd z.opnd) := by
  cases y <;> cases z <;> exact ⟨rfl, rfl⟩

/-- The ALU operations on an operand `r` (R144). -/
theorem mkAlu_readFrom (y z : Octal) (n m : Byte) : ReadFrom (fieldByte 2 y z) n m (.mkAlu y.alu z.opnd) := by
  cases y <;> cases z <;> exact ⟨rfl, rfl⟩

/-- The secondary table, in its quarters: rotates and shifts, BIT, RES and SET (R150). -/
theorem decodeCb_readFrom (n m : Byte) : ReadFrom 0xCB n m (decodeCb n) := by
  have hrot : ∀ y z, ReadFrom 0xCB (fieldByte 0 y z) m (.mkRot y.rot z.opnd) := fun y z => by
    cases y <;> cases z <;> exact ⟨rfl, rfl⟩
  have hbit : ∀ y z, ReadFrom 0xCB (fieldByte 1 y z) m (.mkBit y z.opnd) := fun y z => by
    cases y <;> cases z <;> exact ⟨rfl, rfl⟩
  have hres : ∀ y z, ReadFrom 0xCB (fieldByte 2 y z) m (.mkRes y z.opnd) := fun y z => by
    cases y <;> cases z <;> exact ⟨rfl, rfl⟩
  have hset : ∀ y z, ReadFrom 0xCB (fieldByte 3 y z) m (.mkSet y z.opnd) := fun y z => by
    cases y <;> cases z <;> exact ⟨rfl, rfl⟩
  obtain hx | hx | hx | hx := quarter_cases n
  · simpa only [decodeCb, hx, fieldByte_eq hx] using hrot (fieldY n) (fieldZ n)
  · simpa only [decodeCb, hx, fieldByte_eq hx] using hbit (fieldY n) (fieldZ n)
  · simpa only [decodeCb, hx, fieldByte_eq hx] using hres (fieldY n) (fieldZ n)
  · simpa only [decodeCb, hx, fieldByte_eq hx] using hset (fieldY n) (fieldZ n)

/-- The last quarter of the opcode map, the byte 0xCB with its secondary table in it (R142, R148). -/
theorem decodeX3_readFrom (y z : Octal) (w : Word) :
    ReadFrom (fieldByte 3 y z) (loByte w) (hiByte w) (decodeX3 y z (loByte w) w) := by
  cases z with
  | o3 =>
    cases y with
    | o1 => exact decodeCb_readFrom (loByte w) (hiByte w)
    | _ => exact ⟨rfl, rfl⟩
  | _ => cases y <;> exact ⟨rfl, rfl⟩

/-- Three bytes decode to a whole instruction that is encoded as the first of them. -/
theorem decodeBytes_readFrom (b n m : Byte) : ReadFrom b n m (decodeBytes b n m) := by
  obtain hx | hx | hx | hx := quarter_cases b
  · simpa only [decodeBytes, hx, fieldByte_eq hx, loByte_joinBytes, hiByte_joinBytes] using
      decodeX0_readFrom (fieldY b) (fieldZ b) (joinBytes m n)
  · simpa only [decodeBytes, hx, fieldByte_eq hx] using mkLd_readFrom (fieldY b) (fieldZ b) n m
  · simpa only [decodeBytes, hx, fieldByte_eq hx] using mkAlu_readFrom (fieldY b) (fieldZ b) n m
  · simpa only [decodeBytes, hx, fieldByte_eq hx, loByte_joinBytes, hiByte_joinBytes] using
      decodeX3_readFrom (fieldY b) (fieldZ b) (joinBytes m n)

/-! ## The decoder on a stream -/

/-- The instruction that a stream's first three bytes decode to; a byte past its end is read as zero. -/
def firstInstr (bytes : List Byte) : Instr := decodeBytes (bytes.getD 0 0) (bytes.getD 1 0) (bytes.getD 2 0)

/-- A stream that holds the whole of its first instruction decodes to it. -/
theorem decode_of_le {b : Byte} {rest : List Byte} (h : opcodeLength b ≤ rest.length + 1) :
    decode (b :: rest) = .ok (firstInstr (b :: rest)) ((b :: rest).drop (opcodeLength b)) :=
  if_neg (Nat.not_lt.mpr h)

/-- A stream that ends inside its first instruction does not decode. -/
theorem decode_of_lt {b : Byte} {rest : List Byte} (h : rest.length + 1 < opcodeLength b) :
    decode (b :: rest) = .rejected (.truncated b) := if_pos h

/-- A stream that decodes holds the whole of its first instruction, which is the answer. -/
theorem decode_ok {bytes rest : List Byte} {i : Instr} (h : decode bytes = .ok i rest) :
    ∃ b tl, bytes = b :: tl ∧ opcodeLength b ≤ tl.length + 1 ∧ i = firstInstr bytes ∧
      rest = bytes.drop (opcodeLength b) := by
  cases bytes with
  | nil => cases h
  | cons b tl =>
    by_cases hlen : tl.length + 1 < opcodeLength b
    · rw [decode_of_lt hlen] at h
      cases h
    · have hle := Nat.not_lt.mp hlen
      rw [decode_of_le hle] at h
      cases h
      exact ⟨b, tl, rfl, hle, rfl, rfl⟩

/-- An instruction has byte 0, and perhaps bytes after it (R141). -/
theorem opcodeLength_eq_succ (b : Byte) : ∃ k, opcodeLength b = k + 1 := by
  unfold opcodeLength
  split_ifs <;> exact ⟨_, rfl⟩

/-- An instruction has at most three bytes (R141). -/
theorem opcodeLength_le_three (b : Byte) : opcodeLength b ≤ 3 := by
  unfold opcodeLength
  split_ifs <;> decide

/-- As many bytes as an instruction has, taken of a stream that holds them, are the stream's own. -/
theorem take_getD_eq_take {b : Byte} {tl : List Byte} {k : Nat} (hk : k ≤ 3) (h : k ≤ tl.length + 1) :
    [b, tl.getD 0 0, tl.getD 1 0].take k = (b :: tl).take k := by
  match tl, k with
  | _, 0 | _, 1 | _ :: _, 2 | _ :: _ :: _, 3 => rfl
  | [], 2 | [], 3 | [_], 3 => simp at h

/-- The first instruction of a stream that holds the whole of it is encoded as the stream's first bytes. -/
theorem encode_firstInstr {b : Byte} {tl : List Byte} (h : opcodeLength b ≤ tl.length + 1) :
    encode (firstInstr (b :: tl)) = (b :: tl).take (opcodeLength b) :=
  (decodeBytes_readFrom _ _ _).2.trans (take_getD_eq_take (opcodeLength_le_three b) h)

theorem firstInstr_wf (bytes : List Byte) : (firstInstr bytes).wf = true := (decodeBytes_readFrom _ _ _).1

/-- Settles O3: the first instruction's bytes and the bytes after it are the stream. -/
theorem decodeThenEncode : Obligations.DecodeThenEncode := by
  intro bytes rest i h
  obtain ⟨b, tl, rfl, hlen, rfl, rfl⟩ := decode_ok h
  exact ⟨firstInstr_wf _, by rw [encode_firstInstr hlen, List.take_append_drop]⟩

/-! ## What an encoding decodes to -/

/-- How an instruction is read from its own bytes: what follows them has no part in it, and byte 0 says how many they
are (R141, R153). -/
inductive ReadBack (i : Instr) : Prop where
  | one (b : Byte) (he : encode i = [b]) (hl : opcodeLength b = 1) (hd : ∀ n m, decodeBytes b n m = i)
  | two (b n : Byte) (he : encode i = [b, n]) (hl : opcodeLength b = 2) (hd : ∀ m, decodeBytes b n m = i)
  | three (b n m : Byte) (he : encode i = [b, n, m]) (hl : opcodeLength b = 3) (hd : decodeBytes b n m = i)

/-- Every well-formed instruction is read back: the two bytes of an immediate word are joined again (R147), and every
other operand is one byte of the encoding or lies in the opcode's fields. -/
theorem readBack {i : Instr} (hi : i.wf = true) : ReadBack i := by
  cases i with
  | prefixCb n => nomatch hi
  | ldBcD16 w | ldIndA16Sp w | ldDeD16 w | ldHlD16 w | ldSpD16 w | jpA16 w | jpNzA16 w | jpZA16 w | jpNcA16 w | jpCA16 w
    | callA16 w | callNzA16 w | callZA16 w | callNcA16 w | callCA16 w | ldIndA16A w | ldAIndA16 w =>
    exact .three _ _ _ rfl rfl (congrArg _ (joinBytes_halves w))
  | nop | ldIndBcA | incBc | incB | decB | rlca | addHlBc | ldAIndBc | decBc | incC | decC | rrca | ldIndDeA | incDe
    | incD | decD | rla | addHlDe | ldAIndDe | decDe | incE | decE | rra | ldIndHlIncA | incHl | incH | decH | daa
    | addHlHl | ldAIndHlInc | decHl | incL | decL | cpl | ldIndHlDecA | incSp | incIndHl | decIndHl | scf | addHlSp
    | ldAIndHlDec | decSp | incA | decA | ccf | ldBB | ldBC | ldBD | ldBE | ldBH | ldBL | ldBIndHl | ldBA | ldCB
    | ldCC | ldCD | ldCE | ldCH | ldCL | ldCIndHl | ldCA | ldDB | ldDC | ldDD | ldDE | ldDH | ldDL | ldDIndHl | ldDA
    | ldEB | ldEC | ldED | ldEE | ldEH | ldEL | ldEIndHl | ldEA | ldHB | ldHC | ldHD | ldHE | ldHH | ldHL | ldHIndHl
    | ldHA | ldLB | ldLC | ldLD | ldLE | ldLH | ldLL | ldLIndHl | ldLA | ldIndHlB | ldIndHlC | ldIndHlD | ldIndHlE
    | ldIndHlH | ldIndHlL | halt | ldIndHlA | ldAB | ldAC | ldAD | ldAE | ldAH | ldAL | ldAIndHl | ldAA | addAB | addAC
    | addAD | addAE | addAH | addAL | addAIndHl | addAA | adcAB | adcAC | adcAD | adcAE | adcAH | adcAL | adcAIndHl
    | adcAA | subB | subC | subD | subE | subH | subL | subIndHl | subA | sbcAB | sbcAC | sbcAD | sbcAE | sbcAH | sbcAL
    | sbcAIndHl | sbcAA | andB | andC | andD | andE | andH | andL | andIndHl | andA | xorB | xorC | xorD | xorE | xorH
    | xorL | xorIndHl | xorA | orB | orC | orD | orE | orH | orL | orIndHl | orA | cpB | cpC | cpD | cpE | cpH | cpL
    | cpIndHl | cpA | retNz | popBc | pushBc | rst00 | retZ | ret | rst08 | retNc | popDe | illegalD3 | pushDe | rst10
    | retC | reti | illegalDB | illegalDD | rst18 | popHl | ldIndCA | illegalE3 | illegalE4 | pushHl | rst20 | jpHl
    | illegalEB | illegalEC | illegalED | rst28 | popAf | ldAIndC | di | illegalF4 | pushAf | rst30 | ldSpHl | ei
    | illegalFC | illegalFD | rst38 =>
    exact .one _ rfl rfl fun _ _ => rfl
  | _ => exact .two _ _ rfl rfl fun _ => rfl

/-- A stream decodes to the instruction whose encoding it begins with. -/
theorem ReadBack.decode_append {i : Instr} (h : ReadBack i) (rest : List Byte) : decode (encode i ++ rest) = .ok i rest := by
  cases h with
  | one b he hl hd =>
    have hlen : opcodeLength b ≤ rest.length + 1 := by omega
    rw [he, List.singleton_append, decode_of_le hlen, hl]
    exact congrArg (Decoded.ok · rest) (hd _ _)
  | two b n he hl hd =>
    have hlen : opcodeLength b ≤ (n :: rest).length + 1 := by simp [hl]
    rw [he, List.cons_append, List.singleton_append, decode_of_le hlen, hl]
    exact congrArg (Decoded.ok · rest) (hd _)
  | three b n m he hl hd =>
    have hlen : opcodeLength b ≤ (n :: m :: rest).length + 1 := by simp [hl]
    rw [he, List.cons_append, List.cons_append, List.singleton_append, decode_of_le hlen, hl]
    exact congrArg (Decoded.ok · rest) hd

/-- Settles O2: every well-formed instruction is read back from its bytes. -/
theorem encodeThenDecode : Obligations.EncodeThenDecode := fun _ rest hi => (readBack hi).decode_append rest

/-! ## Lengths and sample words -/

/-- The model's length of an instruction is the one that R153 lists. -/
theorem opcodeLength_eq_instrLength (b : Byte) : opcodeLength b = Spec.instrLength b := by
  have h : ∀ b : Byte, opcodeLength b = Spec.instrLength b := by decide
  exact h b

theorem length_encode_firstInstr {b : Byte} {tl : List Byte} (h : opcodeLength b ≤ tl.length + 1) :
    (encode (firstInstr (b :: tl))).length = opcodeLength b := by
  rw [encode_firstInstr h, List.length_take, List.length_cons, Nat.min_eq_left h]

/-- Settles O4: a stream that is long enough decodes to its first instruction, and a shorter one is truncated. -/
theorem lengthFromFirstByte : Obligations.LengthFromFirstByte := by
  intro b rest
  rw [← opcodeLength_eq_instrLength]
  refine ⟨fun hle => ⟨firstInstr (b :: rest), ?_, length_encode_firstInstr hle⟩, decode_of_lt⟩
  obtain ⟨k, hk⟩ := opcodeLength_eq_succ b
  rw [decode_of_le hle, hk]
  rfl

/-- The encoding of a well-formed instruction, with any bytes after it, is read as that instruction. -/
theorem reads_encode {i : Instr} (hi : i.wf = true) (rest : List Byte) :
    Spec.reads (encode i).length (encode i ++ rest) i := by
  rw [Spec.reads, List.drop_left]
  exact encodeThenDecode i rest hi

/-- Settles O1: each word is the encoding of its instruction, followed by the bytes that fill it up. -/
theorem sampleWordsDecode : Obligations.SampleWordsDecode :=
  ⟨reads_encode (i := .nop) rfl [0, 0], reads_encode (i := .ldBcD16 0x1234) rfl [], reads_encode (i := .ldCB) rfl [0, 0],
    reads_encode (i := .halt) rfl [0, 0], reads_encode (i := .addAIndHl) rfl [0, 0], reads_encode (i := .cpD8 0x2F) rfl [0],
    reads_encode (i := .addHlHl) rfl [0, 0], reads_encode (i := .cbBit7H) rfl [0], reads_encode (i := .cbRes0IndHl) rfl [0],
    reads_encode (i := .cbSwapA) rfl [0], reads_encode (i := .jrCE8 0x80) rfl [0], reads_encode (i := .pushAf) rfl [0, 0],
    reads_encode (i := .illegalD3) rfl [0, 0]⟩

/-! ## The step -/

/-- The bytes at PC decode to the instruction at PC, and its length is that of its encoding (R145, R153). -/
theorem State.fetch_of_decode {p : State} {i : Instr} {rest : List Byte} (h : decode p.fetchBytes = .ok i rest) :
    p.fetchInstr = i ∧ p.fetchLength = (encode i).length := by
  obtain ⟨b, tl, hb, hlen, rfl, -⟩ := decode_ok h
  refine ⟨rfl, ?_⟩
  rw [hb, length_encode_firstInstr hlen]
  cases hb
  rfl

/-- What follows the instruction in a step: nothing after the fatal stop; else the EI rule, the divider and the timer
advanced by all the ticks since `t0`, the step counted, and the PPU (R145, R71, R391). -/
theorem State.afterExec_ppuPhase (u : State) (t0 : Nat) : (u.afterExec t0).ppuPhase =
    if u.fatal.isSome then u
    else
      let v := u.eiRule.advanceTimers (u.ticks - t0)
      State.ppuStep { v with steps := v.steps + 1 } := by
  cases hf : u.fatal with
  | some r => simp [State.afterExec, State.ppuPhase, hf]
  | none =>
    obtain ⟨b, d, -, hei⟩ := u.eiRule_eq
    have hfatal : (u.eiRule.endStep t0).fatal = none := by rw [State.endStep_fatal, hei, hf]
    have hticks : u.eiRule.ticks = u.ticks := by rw [hei]
    rw [State.afterExec_of_running _ hf, State.ppuPhase_of_running hfatal, State.endStep, hticks]
    rfl

/-- Settles O28: the instruction at PC is the one decoded, and the end of the step and the PPU follow it unless it was the
fatal stop. -/
theorem stepRunsDecodedInstruction : Obligations.StepRunsDecodedInstruction := by
  intro s u i rest p hs hhalt hstop hdec hexec
  obtain ⟨hi, hlen⟩ := State.fetch_of_decode (p := p) hdec
  refine ⟨(decodeThenEncode _ _ _ hdec).1, ?_⟩
  have hidle : p.idle = false := by simp [State.idle, hhalt, hstop]
  have hrun : exec p.fetchInstr (p.pastFetch p.fetchLength) = .next u := by rwa [hi, hlen]
  obtain ⟨t, ht⟩ := step_completes hs
  obtain ⟨-, ⟨hwait, -⟩ | ⟨-, v, -, hv, rfl⟩⟩ := step_cases ht
  · exact absurd hwait (by simp [p, hidle])
  · cases hrun.symm.trans hv
    rw [ht, State.afterExec_ppuPhase]

/-! ## The illegal bytes and the costs -/

/-- Byte 0 of the three is byte 0 of what they decode to. -/
theorem head_encode_decodeBytes (b n m : Byte) : (encode (decodeBytes b n m)).head? = some b := by
  obtain ⟨k, hk⟩ := opcodeLength_eq_succ b
  rw [(decodeBytes_readFrom b n m).2, hk]
  rfl

/-- Bytes that begin with no illegal byte are not decoded to an illegal instruction. -/
theorem encode_decodeBytes_ne_of_legal {b : Byte} (n m : Byte) (hb : b ∉ Spec.illegalBytes) :
    ∀ x ∈ Spec.illegalBytes, encode (decodeBytes b n m) ≠ [x] := by
  intro x hx he
  have hhead := head_encode_decodeBytes b n m
  rw [he, List.head?_cons, Option.some.injEq] at hhead
  exact hb (hhead ▸ hx)

/-- An illegal byte is decoded to the instruction that raises Fatal with it (R368). -/
theorem exec_decodeBytes_of_illegal {b : Byte} (n m : Byte) (s : State) (hb : b ∈ Spec.illegalBytes) :
    exec (decodeBytes b n m) s = fatalStop b s := by
  simp only [Spec.illegalBytes, List.mem_cons, List.not_mem_nil, or_false] at hb
  obtain rfl | rfl | rfl | rfl | rfl | rfl | rfl | rfl | rfl | rfl | rfl := hb
  all_goals rfl

/-- Settles O5: the 11 bytes decode to the fatal stop, and by its frame no other instruction touches the record. -/
theorem illegalBytesAreExactlyEleven : Obligations.IllegalBytesAreExactlyEleven := by
  intro b n m s
  refine ⟨exec_decodeBytes_of_illegal n m s, fun hb => ?_⟩
  obtain ⟨t, ht⟩ := exec_completes (decodeBytes b n m) s
  obtain ⟨-, -, -, -, hfatal, -⟩ := stateFrame _ s t ht
  exact ⟨t, ht, hfatal (encode_decodeBytes_ne_of_legal n m hb)⟩

/-- What the bytes of an instruction cost by R149: the table's base cost and the taken extra by byte 0, and the cost of a CB
instruction by its second byte. -/
def costOf (bytes : List Byte) (s : State) : Nat :=
  match bytes with
  | [] => 0
  | b :: rest => if b = 0xCB then Spec.cbCost (rest.getD 0 0) else Spec.baseCost b + Spec.takenExtra b s

/-- An answer that, if it is a next state, has added `c` ticks. -/
def Answer.Costs (s : State) (c : Nat) (r : Answer) : Prop := ∀ t, r = .next t → t.ticks = s.ticks + c

theorem State.done_costs {s t : State} (h : t.ticks = s.ticks) (c : Nat) : Answer.Costs s c (t.done c) := by
  rintro _ ⟨⟩
  exact congrArg (· + c) h

section Costs
variable (s : State)

@[simp] theorem State.writeOpnd_ticks (o : Opnd) (v : Byte) : (s.writeOpnd o v).ticks = s.ticks := by
  cases o with
  | reg r => rfl
  | indHl => exact s.memWrite_ticks _ _

theorem updateOpnd_costs (o : Opnd) (r : Flagged) (c : Nat) : Answer.Costs s c ((s.updateOpnd o r).done c) :=
  State.done_costs (by simp [State.updateOpnd]) c

theorem writeOpnd_costs (o : Opnd) (v : Byte) (c : Nat) : Answer.Costs s c ((s.writeOpnd o v).done c) :=
  State.done_costs (s.writeOpnd_ticks o v) c

theorem memWrite_costs (a : Word) (v : Byte) (c : Nat) : Answer.Costs s c ((s.memWrite a v).done c) :=
  State.done_costs (s.memWrite_ticks a v) c

theorem memWrite16_costs (a w : Word) (c : Nat) : Answer.Costs s c ((s.memWrite16 a w).done c) :=
  State.done_costs (by simp [State.memWrite16]) c

theorem storeAStep_costs (w : Word) : Answer.Costs s 8 (storeAStep w s) := State.done_costs (by simp) 8

theorem pushPair_costs (p : StackPair) : Answer.Costs s 16 (pushPair p s) := State.done_costs (by simp) 16

theorem callTo_costs (w : Word) (c : Nat) : Answer.Costs s c ((s.callTo w).done c) :=
  State.done_costs (by simp [State.callTo]) c

/-- The conditional classes cost their base, and the extra when the condition is true (R149, R321). -/
theorem ite_costs {s : State} {yes no : Answer} {c e : Nat} (cc : Cond) (hyes : Answer.Costs s (c + e) yes)
    (hno : Answer.Costs s c no) :
    Answer.Costs s (c + if Spec.taken s cc then e else 0) (if s.cond cc then yes else no) := by
  rw [State.cond_eq_taken]
  split
  · exact hyes
  · exact hno

theorem jumpCond_costs (cc : Cond) (w : Word) : Answer.Costs s (12 + if Spec.taken s cc then 4 else 0) (jumpCond cc w s) :=
  ite_costs cc (State.done_costs rfl 16) (State.done_costs rfl 12)

theorem jumpRelCond_costs (cc : Cond) (e : Byte) :
    Answer.Costs s (8 + if Spec.taken s cc then 4 else 0) (jumpRelCond cc e s) :=
  ite_costs cc (State.done_costs rfl 12) (State.done_costs rfl 8)

theorem callCond_costs (cc : Cond) (w : Word) :
    Answer.Costs s (12 + if Spec.taken s cc then 12 else 0) (callCond cc w s) :=
  ite_costs cc (callTo_costs s w 24) (State.done_costs rfl 12)

theorem retCond_costs (cc : Cond) : Answer.Costs s (8 + if Spec.taken s cc then 12 else 0) (retCond cc s) :=
  ite_costs cc (State.done_costs rfl 20) (State.done_costs rfl 8)

/-- The form of a CB instruction's operand, by its second byte: the byte at HL for the code 6 (R143). -/
theorem opndCost_fieldZ (reg mem : Nat) (n : Byte) :
    opndCost reg mem (fieldZ n).opnd = if n.toNat % 8 = 6 then mem else reg := by
  have hcode : ∀ k < 8, opndCost reg mem (octalOf k).opnd = if k = 6 then mem else reg := fun k hk => by
    interval_cases k <;> rfl
  exact hcode _ (Nat.mod_lt _ (by decide))

/-- The instructions of the secondary table, by their second byte: BIT reads the operand, the others write it too (R149). -/
theorem cbByte_costs (n : Byte) : Answer.Costs s (Spec.cbCost n) (cbByte n s) := by
  have hbit : n.toNat / 64 = 1 → Spec.cbCost n = opndCost 8 12 (fieldZ n).opnd := fun hx => by
    rw [opndCost_fieldZ, Spec.cbCost, if_pos hx]
  have hother : n.toNat / 64 ≠ 1 → Spec.cbCost n = opndCost 8 16 (fieldZ n).opnd := fun hx => by
    rw [opndCost_fieldZ, Spec.cbCost, if_neg hx]
  unfold cbByte
  split
  · rw [hother (by omega)]
    exact updateOpnd_costs s _ _ _
  · rw [hbit (by omega)]
    exact State.done_costs rfl _
  · rw [hother (by omega)]
    exact writeOpnd_costs s _ _ _
  · rw [hother (by omega)]
    exact writeOpnd_costs s _ _ _

theorem cb_costs {i : Instr} {n : Byte} (hi : encode i = [0xCB, n]) (hx : exec i s = cbByte n s) :
    Answer.Costs s (costOf (encode i) s) (exec i s) := by
  rw [hi, hx]
  exact cbByte_costs s n

end Costs

/-- Every instruction but the illegal ones costs what R149 says of its bytes. -/
theorem exec_costs {i : Instr} (s : State) (hi : ∀ b ∈ Spec.illegalBytes, encode i ≠ [b]) :
    Answer.Costs s (costOf (encode i) s) (exec i s) := by
  cases i with
  | illegalD3 | illegalDB | illegalDD | illegalE3 | illegalE4 | illegalEB | illegalEC | illegalED | illegalF4
    | illegalFC | illegalFD => exact absurd rfl (hi _ (by decide))
  | ldIndBcA | ldIndDeA | ldIndHlB | ldIndHlC | ldIndHlD | ldIndHlE | ldIndHlH | ldIndHlL | ldIndHlA | ldhIndA8A n
    | ldIndCA | ldIndA16A w | ldIndHlD8 n => exact memWrite_costs s _ _ _
  | ldIndA16Sp w => exact memWrite16_costs s _ _ _
  | ldIndHlIncA | ldIndHlDecA => exact storeAStep_costs s _
  | incIndHl | decIndHl => exact updateOpnd_costs s _ _ _
  | pushBc | pushDe | pushHl | pushAf => exact pushPair_costs s _
  | rst00 | rst08 | rst10 | rst18 | rst20 | rst28 | rst30 | rst38 | callA16 w => exact callTo_costs s _ _
  | jpNzA16 w | jpZA16 w | jpNcA16 w | jpCA16 w => exact jumpCond_costs s _ w
  | jrNzE8 e | jrZE8 e | jrNcE8 e | jrCE8 e => exact jumpRelCond_costs s _ e
  | callNzA16 w | callZA16 w | callNcA16 w | callCA16 w => exact callCond_costs s _ w
  | retNz | retZ | retNc | retC => exact retCond_costs s _
  | prefixCb n | cbRlcIndHl | cbRrcIndHl | cbRlIndHl | cbRrIndHl | cbSlaIndHl | cbSraIndHl | cbSwapIndHl | cbSrlIndHl
    | cbRes0IndHl | cbRes1IndHl | cbRes2IndHl | cbRes3IndHl | cbRes4IndHl | cbRes5IndHl | cbRes6IndHl | cbRes7IndHl
    | cbSet0IndHl | cbSet1IndHl | cbSet2IndHl | cbSet3IndHl | cbSet4IndHl | cbSet5IndHl | cbSet6IndHl | cbSet7IndHl =>
    exact cb_costs s rfl rfl
  | _ => exact State.done_costs rfl _

/-- The bytes decoded are charged by the table: by the second byte after 0xCB, else by the first. -/
theorem costOf_encode_decodeBytes (b n m : Byte) (s : State) : costOf (encode (decodeBytes b n m)) s =
    if b = 0xCB then Spec.cbCost n else Spec.baseCost b + Spec.takenExtra b s := by
  obtain ⟨k, hk⟩ := opcodeLength_eq_succ b
  rw [(decodeBytes_readFrom b n m).2]
  by_cases hb : b = 0xCB
  · subst hb
    rfl
  · rw [hk, List.take_succ_cons, costOf, if_neg hb, if_neg hb]

/-- Settles O6: a legal instruction answers a next state, and costs what its bytes say. -/
theorem costsOfR149 : Obligations.CostsOfR149 := by
  intro b n m s hb
  obtain ⟨t, ht⟩ := exec_completes (decodeBytes b n m) s
  refine ⟨t, ht, ?_⟩
  rw [← costOf_encode_decodeBytes]
  exact exec_costs s (encode_decodeBytes_ne_of_legal n m hb) t ht

end Sys2Proof.Machine

/-! Proofs of the family 40_load: the loads, the stores and the stack, each by its encoding, its result and its cost. -/

namespace Sys2Proof.Machine

/-! ## The encodings of the rows -/

/-- Three bytes hold the whole of an instruction, so they decode, and as many of them are read as byte 0 says (R153). -/
theorem reads_decodeBytes (b n m : Byte) : Spec.reads (opcodeLength b) [b, n, m] (decodeBytes b n m) :=
  decode_of_le (opcodeLength_le_three b)

theorem reads_mkLdRegReg (dst src : Reg8) (n m : Byte) :
    Spec.reads 1 [Spec.opc (0x40 + 8 * dst.code + src.code), n, m] (.mkLdRegReg dst src) := by
  cases dst <;> cases src <;> exact reads_decodeBytes _ n m

theorem reads_mkLdRegInd (dst : Reg8) (n m : Byte) :
    Spec.reads 1 [Spec.opc (0x46 + 8 * dst.code), n, m] (.mkLdRegInd dst) := by
  cases dst <;> exact reads_decodeBytes _ n m

theorem reads_mkLdImm (dst : Reg8) (n m : Byte) :
    Spec.reads 2 [Spec.opc (0x06 + 8 * dst.code), n, m] (.mkLdImm (.reg dst) n) := by
  cases dst <;> exact reads_decodeBytes _ n m

theorem reads_mkLdIndReg (src : Reg8) (n m : Byte) :
    Spec.reads 1 [Spec.opc (0x70 + src.code), n, m] (.mkLdIndReg src) := by
  cases src <;> exact reads_decodeBytes _ n m

/-- The immediate word has its low byte first (R147). -/
theorem reads_mkLdPairImm (p : Pair) (lo hi : Byte) :
    Spec.reads 3 [Spec.opc (0x01 + 16 * p.code), lo, hi] (.mkLdPairImm p (hi ++ lo)) := by
  cases p <;> exact reads_decodeBytes _ lo hi

theorem reads_mkPush (q : StackPair) (n m : Byte) :
    Spec.reads 1 [Spec.opc (0xC5 + 16 * q.code), n, m] (.mkPush q) := by
  cases q <;> exact reads_decodeBytes _ n m

theorem reads_mkPop (q : StackPair) (n m : Byte) :
    Spec.reads 1 [Spec.opc (0xC1 + 16 * q.code), n, m] (.mkPop q) := by
  cases q <;> exact reads_decodeBytes _ n m

/-! ## The shared operation of each family of rows -/

section Families
variable (s : State)

theorem exec_mkLdRegReg (dst src : Reg8) : exec (.mkLdRegReg dst src) s = loadRegReg dst src s := by
  cases dst <;> cases src <;> rfl

theorem exec_mkLdRegInd (dst : Reg8) : exec (.mkLdRegInd dst) s = loadRegInd dst s := by
  cases dst <;> rfl

theorem exec_mkLdImm (dst : Reg8) (n : Byte) : exec (.mkLdImm (.reg dst) n) s = loadRegImm dst n s := by
  cases dst <;> rfl

theorem exec_mkLdIndReg (src : Reg8) : exec (.mkLdIndReg src) s = storeIndReg src s := by
  cases src <;> rfl

theorem exec_mkLdPairImm (p : Pair) (w : Word) : exec (.mkLdPairImm p w) s = loadPairImm p w s := by
  cases p <;> rfl

theorem exec_mkPush (q : StackPair) : exec (.mkPush q) s = pushPair q s := by
  cases q <;> rfl

end Families

/-! ## What the shared operations answer -/

section Answers
variable (s : State)

/-- An instruction whose effect has left `g` in the registers and the tick counter at `n`. -/
theorem State.done_eq {t : State} {g : Regs} {n : Nat} (hg : t.regs = g) (hn : t.ticks = n) (c : Nat) :
    t.done c = .next { t with regs := g, ticks := n + c } := by
  subst hg hn
  rfl

/-- A store: one bus write, no register written. -/
theorem State.memWrite_done (a : Word) (v : Byte) (c : Nat) :
    (s.memWrite a v).done c = .next { s.memWrite a v with regs := s.regs, ticks := s.ticks + c } :=
  State.done_eq (s.memWrite_regs a v) (s.memWrite_ticks a v) c

/-- The store of a word: two bus writes, the low byte first (R191). -/
theorem State.memWrite16_done (a w : Word) (c : Nat) : (s.memWrite16 a w).done c =
    .next { (s.memWrite a (loByte w)).memWrite (a + 1) (hiByte w) with regs := s.regs, ticks := s.ticks + c } := by
  have hregs : (s.memWrite16 a w).regs = s.regs := by simp [State.memWrite16]
  have hticks : (s.memWrite16 a w).ticks = s.ticks := by simp [State.memWrite16]
  exact State.done_eq hregs hticks c

/-- A load of A moves HL after the read at HL (R185, R186). -/
theorem loadAStep_eq {d w : Word} (h : s.regs.hl + d = w) : loadAStep d s = .next
    { s with
      regs := { s.regs with a := s.memRead s.regs.hl, h := hiByte w, l := loByte w }, ticks := s.ticks + 8 } := by
  subst h
  rfl

/-- A store of A moves HL after the write at HL (R187, R188). -/
theorem storeAStep_eq {d w : Word} (h : s.regs.hl + d = w) : storeAStep d s = .next
    { s.memWrite s.regs.hl s.regs.a with
      regs := { s.regs with h := hiByte w, l := loByte w }, ticks := s.ticks + 8 } := by
  subst h
  have hticks : ((s.memWrite s.regs.hl s.regs.a).setRegs (s.regs.setHl (s.regs.hl + d))).ticks = s.ticks :=
    s.memWrite_ticks _ _
  rw [storeAStep, State.memWrite_regs]
  exact State.done_eq rfl hticks 8

/-- A bus write does not read the registers, so they may be replaced before it or after it. -/
theorem State.memWrite_setRegs (g : Regs) (a : Word) (v : Byte) :
    (s.setRegs g).memWrite a v = (s.memWrite a v).setRegs g := by
  let t := s.memWrite a v
  calc (s.setRegs g).memWrite a v
    _ = t.withCpu g s.ime s.eiDelay s.halted s.ticks := State.memWrite_withCpu g _ _ _ _ s a v
    _ = t.withCpu g t.ime t.eiDelay t.halted t.ticks := by simp [t]

/-- A push writes the high byte at SP - 1 and the low byte at SP - 2, and lowers SP by 2: what SP is between its two writes
has no part in them (R193). -/
theorem State.push16_eq_pushed (w : Word) : s.push16 w = Spec.pushed s w := by
  have hsp : s.regs.sp - 1 - 1 = s.regs.sp - 2 := by rw [BitVec.sub_sub]; rfl
  simp only [State.push16, State.pushByte, State.setSp, State.memWrite_setRegs, State.setRegs_regs, hsp]
  rfl

theorem pushPair_eq (q : StackPair) : pushPair q s =
    .next { Spec.pushed s (s.regs.getStackPair q) with ticks := s.ticks + 16 } := by
  rw [pushPair, State.push16_eq_pushed]
  exact State.done_eq rfl (by simp [Spec.pushed]) 16

/-- POP loads the pair with the word at SP and raises SP by 2 (R194, R195). -/
theorem popPair_eq (q : StackPair) : popPair q s = .next
    { s with
      regs := { s.regs with sp := s.regs.sp + 2 }.setStackPair q (Spec.popWord s), ticks := s.ticks + 12 } := rfl

end Answers

/-! ## The obligations -/

/-- Settles O8: each family decodes from its bytes, and its shared operation writes the destination alone. -/
theorem loadsIntoARegister : Obligations.LoadsIntoARegister := fun dst src n m s =>
  ⟨⟨reads_mkLdRegReg dst src n m, exec_mkLdRegReg s dst src⟩, ⟨reads_mkLdRegInd dst n m, exec_mkLdRegInd s dst⟩,
    ⟨reads_mkLdImm dst n m, exec_mkLdImm s dst n⟩⟩

/-- Settles O9: the store of the register, and of the immediate, is one bus write at HL. -/
theorem storesAtHl : Obligations.StoresAtHl := fun src n m s =>
  ⟨⟨reads_mkLdIndReg src n m, (exec_mkLdIndReg s src).trans (s.memWrite_done _ _ 8)⟩,
    ⟨reads_decodeBytes 0x36 n m, s.memWrite_done _ n 12⟩⟩

/-- Settles O10: each row is a load of A from its address; those of the high page are 0xFF00 plus a byte (R147). -/
theorem loadsOfA : Obligations.LoadsOfA := by
  intro lo hi s
  rw [← highPage_eq, ← highPage_eq]
  exact ⟨⟨reads_decodeBytes 0x0A lo hi, rfl⟩, ⟨reads_decodeBytes 0x1A lo hi, rfl⟩, ⟨reads_decodeBytes 0xFA lo hi, rfl⟩,
    ⟨reads_decodeBytes 0xF0 lo hi, rfl⟩, ⟨reads_decodeBytes 0xF2 lo hi, rfl⟩⟩

/-- Settles O11: each row is one bus write of A at its address; those of the high page are 0xFF00 plus a byte (R147). -/
theorem storesOfA : Obligations.StoresOfA := by
  intro lo hi s
  rw [← highPage_eq, ← highPage_eq]
  exact ⟨⟨reads_decodeBytes 0x02 lo hi, s.memWrite_done _ _ 8⟩, ⟨reads_decodeBytes 0x12 lo hi, s.memWrite_done _ _ 8⟩,
    ⟨reads_decodeBytes 0xEA lo hi, s.memWrite_done _ _ 16⟩, ⟨reads_decodeBytes 0xE0 lo hi, s.memWrite_done _ _ 12⟩,
    ⟨reads_decodeBytes 0xE2 lo hi, s.memWrite_done _ _ 8⟩⟩

/-- Settles O12: the rows that move HL down add -1 to it. -/
theorem loadsThatStepHl : Obligations.LoadsThatStepHl := by
  intro n m s
  have hdown : s.regs.hl + -1 = s.regs.hl - 1 := (sub_eq_add_neg _ _).symm
  exact ⟨⟨reads_decodeBytes 0x2A n m, loadAStep_eq s rfl⟩, ⟨reads_decodeBytes 0x3A n m, loadAStep_eq s hdown⟩,
    ⟨reads_decodeBytes 0x22 n m, storeAStep_eq s rfl⟩, ⟨reads_decodeBytes 0x32 n m, storeAStep_eq s hdown⟩⟩

/-- Settles O13: the pair takes the immediate, SP is stored as a word, and HL is copied to SP. -/
theorem loads16 : Obligations.Loads16 := fun p lo hi s =>
  ⟨⟨reads_mkLdPairImm p lo hi, exec_mkLdPairImm s p _⟩,
    ⟨reads_decodeBytes 0x08 lo hi, s.memWrite16_done _ s.regs.sp 20⟩, ⟨reads_decodeBytes 0xF9 lo hi, rfl⟩⟩

/-- Settles O14: PUSH is the push of the pair, and POP the popped word written to it. -/
theorem pushAndPop : Obligations.PushAndPop := fun q n m s =>
  ⟨⟨reads_mkPush q n m, (exec_mkPush s q).trans (pushPair_eq s q)⟩, reads_mkPop q n m, popPair_eq s .bc, popPair_eq s .de,
    popPair_eq s .hl, popPair_eq s .af⟩

end Sys2Proof.Machine

/-! Proofs of the family 41_alu8: the 8-bit arithmetic and logic, each by its encoding, its result, its flags and its
cost. -/

namespace Sys2Proof.Machine

/-! ## The flag byte and the numbers behind it -/

/-- F as the model packs it is F as R24 lays it out. -/
theorem Flags.pack_eq_flagByte (f : Flags) : f.pack = Spec.flagByte f.z f.n f.h f.c := by
  obtain ⟨z, n, h, c⟩ := f
  cases z <;> cases n <;> cases h <;> cases c <;> rfl

theorem carryNat_eq_toNat (c : Bool) : carryNat c = c.toNat := by cases c <;> rfl

/-- A difference truncated is the difference of the truncated numbers. -/
theorem ofInt_sub (w : Nat) (x y : Int) : BitVec.ofInt w (x - y) = BitVec.ofInt w x - BitVec.ofInt w y := by
  rw [sub_eq_add_neg, BitVec.ofInt_add, BitVec.ofInt_neg, BitVec.sub_eq_add_neg]

theorem ofInt_toNat (v : Byte) : BitVec.ofInt 8 (v.toNat : Int) = v := by
  rw [BitVec.ofInt_natCast, BitVec.ofNat_toNat, BitVec.setWidth_eq]

/-- `trunc8(r) = 0`, over unbounded integers. -/
theorem ofInt_eq_zero_iff (r : Int) : BitVec.ofInt 8 r = 0 ↔ r % 256 = 0 := by
  rw [BitVec.toNat_eq, BitVec.toNat_ofInt]
  change (r % 256).toNat = 0 ↔ _
  omega

theorem ofNat_eq_zero_iff (k : Nat) : BitVec.ofNat 8 k = 0 ↔ k % 256 = 0 := by
  rw [BitVec.toNat_eq, BitVec.toNat_ofNat]
  exact Iff.rfl

/-! ## The encodings of the rows -/

/-- The rows of an ALU operation on an operand `r` (R221). -/
theorem reads_mkAlu (op : AluOp) (o : Opnd) (n m : Byte) :
    Spec.reads 1 [Spec.opc (0x80 + 8 * op.code + o.code), n, m] (.mkAlu op o) := by
  cases o with
  | reg r => cases op <;> cases r <;> exact reads_decodeBytes _ n m
  | indHl => cases op <;> exact reads_decodeBytes _ n m

theorem reads_mkAluImm (op : AluOp) (n m : Byte) :
    Spec.reads 2 [Spec.opc (0xC6 + 8 * op.code), n, m] (.mkAluImm op n) := by
  cases op <;> exact reads_decodeBytes _ n m

theorem reads_mkInc (o : Opnd) (n m : Byte) : Spec.reads 1 [Spec.opc (0x04 + 8 * o.code), n, m] (.mkInc o) := by
  cases o with
  | reg r => cases r <;> exact reads_decodeBytes _ n m
  | indHl => exact reads_decodeBytes _ n m

theorem reads_mkDec (o : Opnd) (n m : Byte) : Spec.reads 1 [Spec.opc (0x05 + 8 * o.code), n, m] (.mkDec o) := by
  cases o with
  | reg r => cases r <;> exact reads_decodeBytes _ n m
  | indHl => exact reads_decodeBytes _ n m

/-! ## The shared operation of each family of rows -/

section Families
variable (s : State)

theorem exec_mkAlu (op : AluOp) (o : Opnd) : exec (.mkAlu op o) s = aluOpnd op o s := by
  cases o with
  | reg r => cases op <;> cases r <;> rfl
  | indHl => cases op <;> rfl

theorem exec_mkAluImm (op : AluOp) (n : Byte) : exec (.mkAluImm op n) s = aluImm op n s := by
  cases op <;> rfl

theorem exec_mkInc (o : Opnd) : exec (.mkInc o) s = incOpnd o s := by
  cases o with
  | reg r => cases r <;> rfl
  | indHl => rfl

theorem exec_mkDec (o : Opnd) : exec (.mkDec o) s = decOpnd o s := by
  cases o with
  | reg r => cases r <;> rfl
  | indHl => rfl

end Families

/-! ## What the shared operations answer -/

/-- A flag instruction writes F alone. -/
theorem State.setFlags_done (s : State) (g : Flags) (cost : Nat) : (s.setFlags g).done cost =
    .next { s with regs := { s.regs with f := Spec.flagByte g.z g.n g.h g.c }, ticks := s.ticks + cost } := by
  rw [← Flags.pack_eq_flagByte]
  rfl

/-- The value and F of a result, as bytes. -/
structure Flagged.Is (r : Flagged) (value f : Byte) : Prop where
  value : r.value = value
  flags : r.flags.pack = f

section Answers
variable {s : State} {r : Flagged} {value f : Byte}

/-- An accumulator operation writes A and F alone. -/
theorem Flagged.Is.setAFlags_done (h : r.Is value f) (cost : Nat) : (s.setAFlags r).done cost =
    .next { s with regs := { s.regs with a := value, f := f }, ticks := s.ticks + cost } := by
  obtain ⟨rfl, rfl⟩ := h
  rfl

/-- An operation that replaces a register writes it and F alone. -/
theorem Flagged.Is.updateReg_done (h : r.Is value f) (x : Reg8) (cost : Nat) : (s.updateOpnd (.reg x) r).done cost =
    .next { s with regs := { s.regs.set x value with f := f }, ticks := s.ticks + cost } := by
  obtain ⟨rfl, rfl⟩ := h
  rfl

/-- An operation that replaces the byte at HL is one bus write, and writes F. -/
theorem Flagged.Is.updateIndHl_done (h : r.Is value f) (cost : Nat) : (s.updateOpnd .indHl r).done cost =
    .next { s.memWrite s.regs.hl value with regs := { s.regs with f := f }, ticks := s.ticks + cost } := by
  obtain ⟨rfl, rfl⟩ := h
  have hregs : (s.updateOpnd .indHl r).regs = { s.regs with f := r.flags.pack } := by
    simp [State.updateOpnd, State.writeOpnd, State.setFlags]
  have hticks : (s.updateOpnd .indHl r).ticks = s.ticks := by simp [State.updateOpnd, State.writeOpnd]
  exact State.done_eq hregs hticks cost

end Answers

/-- An ALU operation gives what its result and flags are as functions of A, the operand and the carry. -/
theorem aluGives_of {op : AluOp} {value flags : Nat → Nat → Nat → Byte}
    (h : ∀ a v g, (aluFlagged op a v g).Is (value a.toNat v.toNat g.c.toNat) (flags a.toNat v.toNat g.c.toNat)) :
    Spec.AluGives op value flags := fun s r n =>
  ⟨(exec_mkAlu s op (.reg r)).trans ((h _ _ s.flags).setAFlags_done 4),
    (exec_mkAlu s op .indHl).trans ((h _ _ s.flags).setAFlags_done 8),
    (exec_mkAluImm s op n).trans ((h _ n s.flags).setAFlags_done 8)⟩

/-- An operation that replaces its operand gives what its result and flags are as functions of it and the flags. -/
theorem operandBecomes_of {mk : Opnd → Instr} {result : Byte → Flags → Flagged} {value : Nat → Nat → Byte}
    {flags : Nat → State → Byte} {reg mem : Nat}
    (hmk : ∀ o s, exec (mk o) s = (s.updateOpnd o (result (s.readOpnd o) s.flags)).done (opndCost reg mem o))
    (h : ∀ v s, (result v s.flags).Is (value v.toNat (Spec.carry s)) (flags v.toNat s)) :
    Spec.OperandBecomes mk value flags reg mem := fun s r =>
  ⟨(hmk (.reg r) s).trans ((h _ s).updateReg_done r reg), (hmk .indHl s).trans ((h _ s).updateIndHl_done mem)⟩

/-! ## Results and flags over unbounded integers -/

/-- A result whose Z says whether it is zero, once it is known as a byte and its being zero as a number's. -/
theorem Flagged.is_of_zero {w value : Byte} {p : Prop} [Decidable p] {n h c : Bool} (hw : w = value)
    (hz : value = 0 ↔ p) :
    Flagged.Is ⟨w, ⟨decide (w = 0), n, h, c⟩⟩ value (Spec.flagByte (decide p) n h c) := by
  subst hw
  rw [← decide_eq_decide.mpr hz]
  exact ⟨rfl, Flags.pack_eq_flagByte _⟩

/-- A sum with its carry-in (R222, R223). -/
theorem addFlagged_is (a v : Byte) (c : Bool) :
    let r := a.toNat + v.toNat + c.toNat
    (addFlagged a v c).Is (BitVec.ofNat 8 r)
      (Spec.flagByte (decide (r % 256 = 0)) false (decide (a.toNat % 16 + v.toNat % 16 + c.toNat > 0xF))
        (decide (r > 0xFF))) := by
  rw [← carryNat_eq_toNat]
  exact ⟨rfl, Flags.pack_eq_flagByte _⟩

/-- A byte less another and a borrow. -/
theorem sub_sub_eq_ofInt (a v : Byte) (k : Nat) :
    a - v - BitVec.ofNat 8 k = BitVec.ofInt 8 ((a.toNat : Int) - v.toNat - k) := by
  rw [ofInt_sub, ofInt_sub, ofInt_toNat, ofInt_toNat, BitVec.ofInt_natCast]

/-- A difference with its borrow-in (R225). -/
theorem subFlagged_is (a v : Byte) (c : Bool) :
    let r := (a.toNat : Int) - v.toNat - c.toNat
    (subFlagged a v c).Is (BitVec.ofInt 8 r)
      (Spec.flagByte (decide (r % 256 = 0)) true (decide (a.toNat % 16 < v.toNat % 16 + c.toNat))
        (decide (a.toNat < v.toNat + c.toNat))) := by
  rw [← carryNat_eq_toNat]
  exact Flagged.is_of_zero (sub_sub_eq_ofInt a v _) (ofInt_eq_zero_iff _)

/-- A difference with no borrow-in (R224, R229). -/
theorem subFlagged_false_is (a v : Byte) :
    let r := (a.toNat : Int) - v.toNat
    (subFlagged a v false).Is (BitVec.ofInt 8 r)
      (Spec.flagByte (decide (r % 256 = 0)) true (decide (a.toNat % 16 < v.toNat % 16)) (decide (a.toNat < v.toNat))) := by
  simpa using subFlagged_is a v false

/-- A logic result that is the number `k` (R226 to R228). -/
theorem logicFlagged_is {r : Byte} {k : Nat} (hr : r.toNat = k) (h : Bool) :
    (logicFlagged r h).Is (BitVec.ofNat 8 k) (Spec.flagByte (decide (k = 0)) false h false) := by
  subst hr
  rw [BitVec.ofNat_toNat, BitVec.setWidth_eq]
  exact Flagged.is_of_zero rfl BitVec.toNat_eq

/-- A byte plus one (R230). -/
theorem incFlagged_is (v : Byte) (g : Flags) :
    (incFlagged v g).Is (BitVec.ofNat 8 (v.toNat + 1))
      (Spec.flagByte (decide ((v.toNat + 1) % 256 = 0)) false (decide (v.toNat % 16 = 0xF)) g.c) := by
  have hv : v + 1 = BitVec.ofNat 8 (v.toNat + 1) := by
    rw [BitVec.ofNat_add, BitVec.ofNat_toNat, BitVec.setWidth_eq]
    rfl
  exact Flagged.is_of_zero hv (ofNat_eq_zero_iff _)

/-- A byte minus one (R232). -/
theorem decFlagged_is (v : Byte) (g : Flags) :
    (decFlagged v g).Is (BitVec.ofInt 8 ((v.toNat : Int) - 1))
      (Spec.flagByte (decide (((v.toNat : Int) - 1) % 256 = 0)) true (decide (v.toNat % 16 = 0)) g.c) := by
  have hv : v - 1 = BitVec.ofInt 8 ((v.toNat : Int) - 1) := by
    rw [ofInt_sub, ofInt_toNat]
    rfl
  exact Flagged.is_of_zero hv (ofInt_eq_zero_iff _)

/-- The complement of a byte is what it lacks to 255 (R235). -/
theorem xor_ones_eq_ofNat (a : Byte) : a ^^^ 0xFF = BitVec.ofNat 8 (255 - a.toNat) :=
  calc a ^^^ 0xFF
    _ = ~~~a := BitVec.xor_allOnes
    _ = BitVec.ofNat 8 (~~~a).toNat := by rw [BitVec.ofNat_toNat, BitVec.setWidth_eq]
    _ = BitVec.ofNat 8 (255 - a.toNat) := by rw [BitVec.toNat_not]

/-! ## DAA (R234) -/

/-- The high digit is adjusted: C asks for it, or after an addition a value above 0x99. -/
def daaHigh (a : Byte) (g : Flags) : Bool := g.c || (!g.n && decide (0x99 < a.toNat))

/-- The low digit is adjusted: H asks for it, or after an addition a digit above 9. -/
def daaLow (a : Byte) (g : Flags) : Bool := g.h || (!g.n && decide (9 < a.toNat % 16))

/-- The two adjustments, of the high digit and of the low one. -/
def daaAdjust (high low : Bool) : Int := (if high then 0x60 else 0) + (if low then 0x06 else 0)

/-- A with its adjustments, before it is truncated. -/
def daaSum (a : Byte) (g : Flags) : Int :=
  if g.n then a.toNat - daaAdjust (daaHigh a g) (daaLow a g) else a.toNat + daaAdjust (daaHigh a g) (daaLow a g)

/-- The byte that the model adds or subtracts is the sum of the adjustments. -/
theorem ofInt_daaAdjust (high low : Bool) :
    BitVec.ofInt 8 (daaAdjust high low) = (if high then 0x60 else 0) + (if low then 0x06 else 0) := by
  cases high <;> cases low <;> rfl

/-- The model's result is the adjusted A, truncated. -/
theorem daaFlagged_value (a : Byte) (g : Flags) : (daaFlagged a g).value = BitVec.ofInt 8 (daaSum a g) := by
  unfold daaSum
  split
  next hn =>
    rw [ofInt_sub, ofInt_toNat, ofInt_daaAdjust]
    exact if_pos hn
  next hn =>
    rw [BitVec.ofInt_add, ofInt_toNat, ofInt_daaAdjust]
    exact if_neg hn

theorem daaFlagged_is (a : Byte) (g : Flags) : (daaFlagged a g).Is (BitVec.ofInt 8 (daaSum a g))
    (Spec.flagByte (decide (daaSum a g % 256 = 0)) g.n false (daaHigh a g)) :=
  Flagged.is_of_zero (daaFlagged_value a g) (ofInt_eq_zero_iff _)

/-- After an addition the pseudocode compares A, and its low digit, as unbounded integers. -/
theorem daa_of_add (a : Byte) {g : Flags} (hn : g.n = false) :
    (daaHigh a g = true ↔ g.c = true ∨ (a.toNat : Int) > 0x99) ∧
      (daaLow a g = true ↔ g.h = true ∨ (a.toNat : Int) % 16 > 9) := by
  have hhigh : 0x99 < a.toNat ↔ (a.toNat : Int) > 0x99 := by omega
  have hlow : 9 < a.toNat % 16 ↔ (a.toNat : Int) % 16 > 9 := by omega
  rw [← hhigh, ← hlow]
  simp [daaHigh, daaLow, hn]

/-- After a subtraction the flags alone ask for the adjustments. -/
theorem daa_of_sub (a : Byte) {g : Flags} (hn : g.n = true) : daaHigh a g = g.c ∧ daaLow a g = g.h := by
  simp [daaHigh, daaLow, hn]

/-! ## The obligations -/

/-- Settles O15: each operation is a sum or a difference of A, the operand and perhaps the carry; CP keeps A. -/
theorem addSubtractCompare : Obligations.AddSubtractCompare := by
  have hcp : ∀ (a v : Byte) (g : Flags), (aluFlagged .cp a v g).value = BitVec.ofNat 8 a.toNat := fun a _ _ => by
    rw [BitVec.ofNat_toNat, BitVec.setWidth_eq, aluFlagged]
  exact ⟨fun op o n m => ⟨reads_mkAlu op o n m, reads_mkAluImm op n m⟩,
    aluGives_of fun a v _ => addFlagged_is a v false,
    aluGives_of fun a v g => addFlagged_is a v g.c,
    aluGives_of fun a v _ => subFlagged_false_is a v,
    aluGives_of fun a v g => subFlagged_is a v g.c,
    aluGives_of fun a v g => ⟨hcp a v g, (subFlagged_false_is a v).flags⟩⟩

/-- Settles O16: each operation is the one on numbers, bit by bit. -/
theorem logicOperations : Obligations.LogicOperations :=
  ⟨aluGives_of fun a v _ => logicFlagged_is (BitVec.toNat_and a v) true,
    aluGives_of fun a v _ => logicFlagged_is (BitVec.toNat_xor a v) false,
    aluGives_of fun a v _ => logicFlagged_is (BitVec.toNat_or a v) false⟩

/-- Settles O17: INC and DEC replace their operand, and keep C. -/
theorem incrementDecrement8 : Obligations.IncrementDecrement8 :=
  ⟨fun o n m => ⟨reads_mkInc o n m, reads_mkDec o n m⟩,
    operandBecomes_of (fun o s => exec_mkInc s o) fun v s => incFlagged_is v s.flags,
    operandBecomes_of (fun o s => exec_mkDec s o) fun v s => decFlagged_is v s.flags⟩

/-- Settles O18: the pseudocode's two branches are those of the N flag. -/
theorem decimalAdjust : Obligations.DecimalAdjust := by
  intro n m s a highAdjust lowAdjust added subtracted r c
  obtain ⟨hr, hc⟩ : daaSum s.regs.a s.flags = r ∧ daaHigh s.regs.a s.flags = c := by
    by_cases hn : s.flags.n = true
    · obtain ⟨hhigh, hlow⟩ := daa_of_sub s.regs.a hn
      have hr : r = subtracted := if_pos hn
      have hc : c = s.flags.c := if_pos hn
      rw [hr, hc, daaSum, if_pos hn, hhigh, hlow]
      exact ⟨(sub_sub _ _ _).symm, rfl⟩
    · obtain ⟨hhigh, hlow⟩ := daa_of_add s.regs.a (Bool.eq_false_of_not_eq_true hn)
      have hr : r = added := if_neg hn
      have hc : c = decide highAdjust := if_neg hn
      rw [hr, hc, daaSum, if_neg hn, Bool.eq_iff_iff, decide_eq_true_iff, daaAdjust]
      simp only [hhigh, hlow]
      exact ⟨(add_assoc _ _ _).symm, Iff.rfl⟩
  have h := daaFlagged_is s.regs.a s.flags
  rw [hr, hc] at h
  exact ⟨reads_decodeBytes 0x27 n m, h.setAFlags_done 4⟩

/-- Settles O19: each instruction writes its flags and keeps the others; CPL also complements A. -/
theorem complementAndCarry : Obligations.ComplementAndCarry := by
  intro n m s
  have hcpl : Flagged.Is { value := s.regs.a ^^^ 0xFF, flags := { s.flags with n := true, h := true } }
      (BitVec.ofNat 8 (255 - s.regs.a.toNat)) (Spec.flagByte (Spec.zf s) true true (Spec.cf s)) :=
    ⟨xor_ones_eq_ofNat s.regs.a, Flags.pack_eq_flagByte _⟩
  exact ⟨⟨reads_decodeBytes 0x2F n m, hcpl.setAFlags_done 4⟩, ⟨reads_decodeBytes 0x37 n m, s.setFlags_done _ 4⟩,
    ⟨reads_decodeBytes 0x3F n m, s.setFlags_done _ 4⟩⟩

end Sys2Proof.Machine

/-! Proofs of the family 42_alu16: the 16-bit arithmetic, each by its encoding, its result, its flags and its cost. -/

namespace Sys2Proof.Machine

/-! ## The encodings of the rows -/

theorem reads_mkIncPair (p : Pair) (n m : Byte) :
    Spec.reads 1 [Spec.opc (0x03 + 16 * p.code), n, m] (.mkIncPair p) := by
  cases p <;> exact reads_decodeBytes _ n m

theorem reads_mkDecPair (p : Pair) (n m : Byte) :
    Spec.reads 1 [Spec.opc (0x0B + 16 * p.code), n, m] (.mkDecPair p) := by
  cases p <;> exact reads_decodeBytes _ n m

theorem reads_mkAddHl (p : Pair) (n m : Byte) :
    Spec.reads 1 [Spec.opc (0x09 + 16 * p.code), n, m] (.mkAddHl p) := by
  cases p <;> exact reads_decodeBytes _ n m

/-! ## The shared operation of each family of rows -/

section Families
variable (s : State) (p : Pair)

theorem exec_mkIncPair : exec (.mkIncPair p) s = incPair p s := by
  cases p <;> rfl

theorem exec_mkDecPair : exec (.mkDecPair p) s = decPair p s := by
  cases p <;> rfl

theorem exec_mkAddHl : exec (.mkAddHl p) s = addHlPair p s := by
  cases p <;> rfl

end Families

/-! ## Sums over unbounded integers, truncated to a word -/

theorem ofInt_word_toNat (w : Word) : BitVec.ofInt 16 (w.toNat : Int) = w := by
  rw [BitVec.ofInt_natCast, BitVec.ofNat_toNat, BitVec.setWidth_eq]

/-- A word minus one (R262). -/
theorem word_sub_one (w : Word) : w - 1 = BitVec.ofInt 16 ((w.toNat : Int) - 1) := by
  rw [ofInt_sub, ofInt_word_toNat]
  rfl

/-- The signed immediate is added as the integer it stands for (R264). -/
theorem word_add_sext16 (w : Word) (e : Byte) : w + sext16 e = BitVec.ofInt 16 ((w.toNat : Int) + e.toInt) := by
  rw [BitVec.ofInt_add, ofInt_word_toNat]
  rfl

/-! ## What the shared operations answer -/

section Answers
variable (s : State)

/-- An instruction that leaves `g` in the registers, and its flags in F. -/
theorem State.setRegs_flags_done (g : Regs) (f : Flags) (cost : Nat) :
    (s.setRegs { g with f := f.pack }).done cost =
      .next { s with regs := { g with f := Spec.flagByte f.z f.n f.h f.c }, ticks := s.ticks + cost } := by
  rw [← Flags.pack_eq_flagByte]
  rfl

/-- INC of a pair writes no flag (R261). -/
theorem incPair_eq (p : Pair) : incPair p s = .next
    { s with
      regs := s.regs.setPair p (BitVec.ofNat 16 ((s.regs.getPair p).toNat + 1)), ticks := s.ticks + 8 } := rfl

/-- DEC of a pair writes no flag (R262). -/
theorem decPair_eq (p : Pair) : decPair p s = .next
    { s with
      regs := s.regs.setPair p (BitVec.ofInt 16 (((s.regs.getPair p).toNat : Int) - 1)), ticks := s.ticks + 8 } := by
  rw [← word_sub_one]
  rfl

/-- ADD HL keeps Z, and takes H and C from the sums as numbers (R263). -/
theorem addHlPair_eq (p : Pair) : addHlPair p s =
    let hl := s.regs.hl.toNat
    let v := (s.regs.getPair p).toNat
    .next
      { s with
        regs := { s.regs.setPair .hl (BitVec.ofNat 16 (hl + v)) with
                  f := Spec.flagByte (Spec.zf s) false (decide (hl % 4096 + v % 4096 > 0xFFF)) (decide (hl + v > 0xFFFF)) },
        ticks := s.ticks + 8 } :=
  s.setRegs_flags_done (s.regs.setPair .hl _) (addHlFlags _ _ s.flags) 8

end Answers

/-! ## The obligations -/

/-- Settles O20: INC and DEC write the pair alone; ADD HL writes HL, and F with Z as it was. -/
theorem arithmetic16 : Obligations.Arithmetic16 := fun p n m s =>
  ⟨⟨reads_mkIncPair p n m, (exec_mkIncPair s p).trans (incPair_eq s p)⟩,
    ⟨reads_mkDecPair p n m, (exec_mkDecPair s p).trans (decPair_eq s p)⟩,
    ⟨reads_mkAddHl p n m, (exec_mkAddHl s p).trans (addHlPair_eq s p)⟩⟩

/-- Settles O21: both write the signed sum, and the flags of the unsigned low-byte add. -/
theorem stackPointerOffset : Obligations.StackPointerOffset := by
  intro u m s r f
  let sum := s.regs.sp + sext16 u
  let flags := spOffsetFlags s.regs.sp u
  have hr : sum = r := word_add_sext16 s.regs.sp u
  rw [← hr]
  exact ⟨⟨reads_decodeBytes 0xE8 u m, s.setRegs_flags_done (s.regs.setPair .sp sum) flags 16⟩,
    ⟨reads_decodeBytes 0xF8 u m, s.setRegs_flags_done (s.regs.setPair .hl sum) flags 12⟩⟩

end Sys2Proof.Machine

/-! Proofs of the family 43_rotate_shift_bit: the rotates, the shifts and the bit instructions, each by its encoding, its
result, its flags and its cost. -/

namespace Sys2Proof.Machine

/-! ## The encodings of the rows (R150) -/

theorem reads_mkRot (op : RotOp) (o : Opnd) (m : Byte) :
    Spec.reads 2 [0xCB, Spec.opc (8 * op.code + o.code), m] (.mkRot op o) := by
  cases o with
  | reg r => cases op <;> cases r <;> exact reads_decodeBytes 0xCB _ m
  | indHl => cases op <;> exact reads_decodeBytes 0xCB _ m

theorem reads_mkBit (b : Octal) (o : Opnd) (m : Byte) :
    Spec.reads 2 [0xCB, Spec.opc (0x40 + 8 * b.toNat + o.code), m] (.mkBit b o) := by
  cases o with
  | reg r => cases b <;> cases r <;> exact reads_decodeBytes 0xCB _ m
  | indHl => cases b <;> exact reads_decodeBytes 0xCB _ m

theorem reads_mkRes (b : Octal) (o : Opnd) (m : Byte) :
    Spec.reads 2 [0xCB, Spec.opc (0x80 + 8 * b.toNat + o.code), m] (.mkRes b o) := by
  cases o with
  | reg r => cases b <;> cases r <;> exact reads_decodeBytes 0xCB _ m
  | indHl => cases b <;> exact reads_decodeBytes 0xCB _ m

theorem reads_mkSet (b : Octal) (o : Opnd) (m : Byte) :
    Spec.reads 2 [0xCB, Spec.opc (0xC0 + 8 * b.toNat + o.code), m] (.mkSet b o) := by
  cases o with
  | reg r => cases b <;> cases r <;> exact reads_decodeBytes 0xCB _ m
  | indHl => cases b <;> exact reads_decodeBytes 0xCB _ m

/-! ## The shared operation of each family of rows -/

section Families
variable (s : State)

theorem exec_mkRot (op : RotOp) (o : Opnd) : exec (.mkRot op o) s = rotOpnd op o s := by
  cases o with
  | reg r => cases op <;> cases r <;> rfl
  | indHl => cases op <;> rfl

theorem exec_mkBit (b : Octal) (o : Opnd) : exec (.mkBit b o) s = bitOpnd b o s := by
  cases o with
  | reg r => cases b <;> cases r <;> rfl
  | indHl => cases b <;> rfl

theorem exec_mkRes (b : Octal) (o : Opnd) : exec (.mkRes b o) s = resOpnd b o s := by
  cases o with
  | reg r => cases b <;> cases r <;> rfl
  | indHl => cases b <;> rfl

theorem exec_mkSet (b : Octal) (o : Opnd) : exec (.mkSet b o) s = setOpnd b o s := by
  cases o with
  | reg r => cases b <;> cases r <;> rfl
  | indHl => cases b <;> rfl

end Families

/-! ## Rotated and shifted bytes as numbers -/

/-- The rotated or shifted operand as a number, with the carry in `c`, before it is truncated (R286 to R293). -/
def rotNat (op : RotOp) (v c : Nat) : Nat :=
  match op with
  | .rlc => v * 2 + v / 128
  | .rrc => v / 2 + v % 2 * 128
  | .rl => v * 2 + c
  | .rr => v / 2 + c * 128
  | .sla => v * 2
  | .sra => v / 2 + v / 128 * 128
  | .swap => v % 16 * 16 + v / 16
  | .srl => v / 2

/-- The bit that leaves the operand: its top bit to the left, its low bit to the right, none for SWAP. -/
def rotOut (op : RotOp) (v : Nat) : Bool :=
  match op with
  | .rlc | .rl | .sla => decide (v / 128 = 1)
  | .rrc | .rr | .sra | .srl => decide (v % 2 = 1)
  | .swap => false

/-- A bit as the byte 0 or 1, as `rotated` puts it into a shifted operand. -/
def bitByte (b : Bool) : Byte := BitVec.zeroExtend 8 (BitVec.ofBool b)

theorem toNat_bitByte (b : Bool) : (bitByte b).toNat = b.toNat := by cases b <;> rfl

theorem toNat_bitByte_high (b : Bool) : (bitByte b <<< 7).toNat = b.toNat * 128 := by cases b <;> rfl

theorem toNat_bitOf_seven (v : Byte) : (bitOf v 7).toNat = v.toNat / 128 :=
  (Nat.toNat_testBit v.toNat 7).trans (Nat.mod_eq_of_lt (by have hv := v.isLt; omega))

theorem toNat_bitOf_zero (v : Byte) : (bitOf v 0).toNat = v.toNat % 2 :=
  (Nat.toNat_testBit v.toNat 0).trans (by rw [pow_zero, Nat.div_one])

/-- The carry-out of each operation. -/
theorem rotated_snd (op : RotOp) (v : Byte) (c : Bool) : (rotated op v c).2 = rotOut op v.toNat := by
  have htop : bitOf v 7 = decide (v.toNat / 128 = 1) := by
    rw [← toNat_bitOf_seven]
    cases bitOf v 7 <;> rfl
  cases op with
  | rlc | rl | sla => exact htop
  | rrc | rr | sra | srl => exact Nat.testBit_zero v.toNat
  | swap => rfl

/-- A high part and a low part that lie in different bits are put together by adding them. -/
theorem or_eq_ofNat {hi lo : Byte} {m : Nat} (k : Nat) (hhi : 2 ^ k ∣ hi.toNat) (hlo : lo.toNat < 2 ^ k)
    (hm : m % 256 = hi.toNat + lo.toNat) : hi ||| lo = BitVec.ofNat 8 m := by
  obtain ⟨q, hq⟩ := hhi
  apply BitVec.eq_of_toNat_eq
  rw [BitVec.toNat_or, BitVec.toNat_ofNat, hm, hq, Nat.two_pow_add_eq_or_of_lt hlo]

theorem shiftLeft_one_eq_ofNat (v : Byte) : v <<< 1 = BitVec.ofNat 8 (v.toNat * 2) := by
  apply BitVec.eq_of_toNat_eq
  rw [BitVec.toNat_shiftLeft, Nat.shiftLeft_eq, BitVec.toNat_ofNat]

theorem ushiftRight_one_eq_ofNat (v : Byte) : v >>> 1 = BitVec.ofNat 8 (v.toNat / 2) := by
  have hv := v.isLt
  apply BitVec.eq_of_toNat_eq
  rw [BitVec.toNat_ushiftRight, Nat.shiftRight_eq_div_pow, BitVec.toNat_ofNat, Nat.mod_eq_of_lt (by omega)]

/-- A shift to the left with the bit `b` put in at the low end. -/
theorem shiftLeft_or_eq_ofNat (v : Byte) (b : Bool) :
    v <<< 1 ||| bitByte b = BitVec.ofNat 8 (v.toNat * 2 + b.toNat) := by
  have hhi : (v <<< 1).toNat = v.toNat * 2 % 256 := by rw [shiftLeft_one_eq_ofNat, BitVec.toNat_ofNat]
  have hlo := toNat_bitByte b
  have hb := b.toNat_lt
  exact or_eq_ofNat 1 (by omega) (by omega) (by omega)

/-- A shift to the right with the bit `b` put in at the high end. -/
theorem ushiftRight_or_eq_ofNat (v : Byte) (b : Bool) :
    v >>> 1 ||| bitByte b <<< 7 = BitVec.ofNat 8 (v.toNat / 2 + b.toNat * 128) := by
  have hv := v.isLt
  have hlo : (v >>> 1).toNat = v.toNat / 2 := by rw [BitVec.toNat_ushiftRight, Nat.shiftRight_eq_div_pow]
  have hhi := toNat_bitByte_high b
  have hb := b.toNat_lt
  rw [BitVec.or_comm]
  exact or_eq_ofNat 7 (by omega) (by omega) (by omega)

/-- The sign bit alone, as SRA keeps it. -/
theorem and_signBit (v : Byte) : v &&& (0x80 : Byte) = bitByte (bitOf v 7) <<< 7 := by
  have h : v &&& 0x80 = if bitOf v 7 then 0x80 else 0 := BitVec.and_twoPow v 7
  exact h.trans (by cases bitOf v 7 <;> rfl)

/-- The nibbles exchanged. -/
theorem swapped_eq_ofNat (v : Byte) : v <<< 4 ||| v >>> 4 = BitVec.ofNat 8 (v.toNat % 16 * 16 + v.toNat / 16) := by
  have hv := v.isLt
  have hhi : (v <<< 4).toNat = v.toNat * 16 % 256 := by rw [BitVec.toNat_shiftLeft, Nat.shiftLeft_eq]
  have hlo : (v >>> 4).toNat = v.toNat / 16 := by rw [BitVec.toNat_ushiftRight, Nat.shiftRight_eq_div_pow]
  exact or_eq_ofNat 4 (by omega) (by omega) (by omega)

/-- The result of each operation. -/
theorem rotated_fst (op : RotOp) (v : Byte) (c : Bool) :
    (rotated op v c).1 = BitVec.ofNat 8 (rotNat op v.toNat c.toNat) := by
  cases op with
  | rlc =>
    rw [rotNat, ← toNat_bitOf_seven]
    exact shiftLeft_or_eq_ofNat v (bitOf v 7)
  | rrc =>
    rw [rotNat, ← toNat_bitOf_zero]
    exact ushiftRight_or_eq_ofNat v (bitOf v 0)
  | rl => exact shiftLeft_or_eq_ofNat v c
  | rr => exact ushiftRight_or_eq_ofNat v c
  | sla => exact shiftLeft_one_eq_ofNat v
  | sra =>
    rw [rotNat, ← toNat_bitOf_seven, rotated, and_signBit]
    exact ushiftRight_or_eq_ofNat v (bitOf v 7)
  | swap => exact swapped_eq_ofNat v
  | srl => exact ushiftRight_one_eq_ofNat v

/-- A CB rotate or shift: Z says whether the truncated result is zero (R286 to R293). -/
theorem rotFlagged_is (op : RotOp) (v : Byte) (g : Flags) :
    (rotFlagged op v g).Is (BitVec.ofNat 8 (rotNat op v.toNat g.c.toNat))
      (Spec.flagByte (decide (rotNat op v.toNat g.c.toNat % 256 = 0)) false false (rotOut op v.toNat)) := by
  rw [← rotated_snd op v g.c]
  exact Flagged.is_of_zero (rotated_fst op v g.c) (ofNat_eq_zero_iff _)

/-- An accumulator rotate: Z is 0 whatever the result (R281 to R284). -/
theorem rotAFlagged_is (op : RotOp) (a : Byte) (g : Flags) :
    (rotAFlagged op a g).Is (BitVec.ofNat 8 (rotNat op a.toNat g.c.toNat))
      (Spec.flagByte false false false (rotOut op a.toNat)) := by
  rw [← rotated_snd op a g.c]
  exact ⟨rotated_fst op a g.c, Flags.pack_eq_flagByte _⟩

/-- An operation that does not shift to the left leaves a number that fits a byte. -/
theorem rotNat_lt {op : RotOp} (v : Byte) (c : Bool) (h : op ∉ [RotOp.rlc, .rl, .sla]) :
    rotNat op v.toNat c.toNat < 256 := by
  have hv := v.isLt
  have hc := c.toNat_lt
  cases op with
  | rlc | rl | sla => exact absurd (by decide) h
  | rrc | rr | sra | swap | srl =>
    rw [rotNat]
    omega

/-! ## One bit of a byte -/

/-- The mask of RES and SET has its bit alone. -/
theorem getLsbD_bitMask (b : Octal) (i : Nat) : (bitMask b).getLsbD i = decide (i = b.toNat) := by
  have hb : b.toNat < 8 := by cases b <;> decide
  have h : (bitMask b).getLsbD i = (decide (b.toNat < 8) && decide (b.toNat = i)) := BitVec.getLsbD_twoPow _ _
  rw [h, decide_eq_true hb, Bool.true_and]
  exact decide_eq_decide.mpr eq_comm

/-- RES clears the bit and keeps every other (R295). -/
theorem getLsbD_and_not_bitMask (b : Octal) (v : Byte) {i : Nat} (hi : i < 8) :
    (v &&& ~~~(bitMask b)).getLsbD i = if i = b.toNat then false else v.getLsbD i := by
  rw [BitVec.getLsbD_and, BitVec.getLsbD_not, getLsbD_bitMask, decide_eq_true hi]
  by_cases h : i = b.toNat <;> simp [h]

/-- SET sets the bit and keeps every other (R296). -/
theorem getLsbD_or_bitMask (b : Octal) (v : Byte) (i : Nat) :
    (v ||| bitMask b).getLsbD i = if i = b.toNat then true else v.getLsbD i := by
  rw [BitVec.getLsbD_or, getLsbD_bitMask]
  by_cases h : i = b.toNat <;> simp [h]

/-! ## What the shared operations answer -/

/-- An accumulator rotate writes A, and F with Z as 0 (R281 to R284). -/
theorem rotA_eq (op : RotOp) (s : State) : rotA op s =
    let a := s.regs.a.toNat
    .next
      { s with
        regs := { s.regs with a := BitVec.ofNat 8 (rotNat op a (Spec.carry s)),
                              f := Spec.flagByte false false false (rotOut op a) },
        ticks := s.ticks + 4 } :=
  (rotAFlagged_is op s.regs.a s.flags).setAFlags_done 4

/-- A CB rotate or shift replaces its operand (R285 to R293). -/
theorem mkRot_operandBecomes (op : RotOp) :
    Spec.OperandBecomes (.mkRot op) (fun v c => BitVec.ofNat 8 (rotNat op v c))
      (fun v s => Spec.flagByte (decide (rotNat op v (Spec.carry s) % 256 = 0)) false false (rotOut op v)) 8 16 :=
  operandBecomes_of (fun o s => exec_mkRot s op o) fun v s => rotFlagged_is op v s.flags

/-- Where the result needs no truncation, Z says whether it is zero as a number. -/
theorem mkRot_operandBecomes_of_not_left (op : RotOp) (h : op ∉ [RotOp.rlc, .rl, .sla]) :
    Spec.OperandBecomes (.mkRot op) (fun v c => BitVec.ofNat 8 (rotNat op v c))
      (fun v s => Spec.flagByte (decide (rotNat op v (Spec.carry s) = 0)) false false (rotOut op v)) 8 16 :=
  operandBecomes_of (fun o s => exec_mkRot s op o) fun v s => by
    have hr := rotFlagged_is op v s.flags
    rwa [Nat.mod_eq_of_lt (rotNat_lt v s.flags.c h)] at hr

/-! ## The obligations -/

/-- Settles O22: each accumulator rotate is the rotate of its row, with Z 0. -/
theorem accumulatorRotates : Obligations.AccumulatorRotates := fun n m s =>
  ⟨⟨reads_decodeBytes 0x07 n m, rotA_eq .rlc s⟩, ⟨reads_decodeBytes 0x0F n m, rotA_eq .rrc s⟩,
    ⟨reads_decodeBytes 0x17 n m, rotA_eq .rl s⟩, ⟨reads_decodeBytes 0x1F n m, rotA_eq .rr s⟩⟩

/-- Settles O23: only the shifts to the left have a result to truncate before it is compared with 0. -/
theorem cbRotatesAndShifts : Obligations.CbRotatesAndShifts :=
  ⟨reads_mkRot,
    mkRot_operandBecomes .rlc,
    mkRot_operandBecomes_of_not_left .rrc (by decide),
    mkRot_operandBecomes .rl,
    mkRot_operandBecomes_of_not_left .rr (by decide),
    mkRot_operandBecomes .sla,
    mkRot_operandBecomes_of_not_left .sra (by decide),
    mkRot_operandBecomes_of_not_left .swap (by decide),
    mkRot_operandBecomes_of_not_left .srl (by decide)⟩

/-- Settles O24: BIT writes F alone; RES and SET write back the operand with the mask's bit cleared or set. -/
theorem bitTestResetSet : Obligations.BitTestResetSet := by
  refine ⟨fun b o m => ⟨reads_mkBit b o m, reads_mkRes b o m, reads_mkSet b o m⟩, fun b r s => ?_, fun b r s => ?_⟩
  · exact ⟨(exec_mkBit s b (.reg r)).trans (s.setFlags_done _ 8),
      (exec_mkBit s b .indHl).trans (s.setFlags_done _ 12)⟩
  · let v := s.regs.get r
    let w := s.memRead s.regs.hl
    refine ⟨v &&& ~~~(bitMask b), v ||| bitMask b, w &&& ~~~(bitMask b), w ||| bitMask b, ?_, fun i hi => ?_⟩
    · exact ⟨exec_mkRes s b (.reg r), exec_mkSet s b (.reg r),
        (exec_mkRes s b .indHl).trans (s.memWrite_done _ _ 16), (exec_mkSet s b .indHl).trans (s.memWrite_done _ _ 16)⟩
    · exact ⟨getLsbD_and_not_bitMask b v hi, getLsbD_or_bitMask b v i,
        getLsbD_and_not_bitMask b w hi, getLsbD_or_bitMask b w i⟩

end Sys2Proof.Machine

/-! Proofs of the family 44_control: the jumps, the calls and the returns, each by its encoding, its result and its cost. -/

namespace Sys2Proof.Machine

/-! ## The encodings of the rows -/

theorem reads_mkJpCond (cc : Cond) (lo hi : Byte) :
    Spec.reads 3 [Spec.opc (0xC2 + 8 * cc.code), lo, hi] (.mkJpCond cc (hi ++ lo)) := by
  cases cc <;> exact reads_decodeBytes _ lo hi

theorem reads_mkJrCond (cc : Cond) (e m : Byte) :
    Spec.reads 2 [Spec.opc (0x20 + 8 * cc.code), e, m] (.mkJrCond cc e) := by
  cases cc <;> exact reads_decodeBytes _ e m

theorem reads_mkCallCond (cc : Cond) (lo hi : Byte) :
    Spec.reads 3 [Spec.opc (0xC4 + 8 * cc.code), lo, hi] (.mkCallCond cc (hi ++ lo)) := by
  cases cc <;> exact reads_decodeBytes _ lo hi

theorem reads_mkRetCond (cc : Cond) (n m : Byte) :
    Spec.reads 1 [Spec.opc (0xC0 + 8 * cc.code), n, m] (.mkRetCond cc) := by
  cases cc <;> exact reads_decodeBytes _ n m

theorem reads_mkRst (t : Octal) (n m : Byte) :
    Spec.reads 1 [Spec.opc (0xC7 + 8 * t.toNat), n, m] (.mkRst t) := by
  cases t <;> exact reads_decodeBytes _ n m

/-! ## The shared operation of each family of rows -/

section Families
variable (s : State) (cc : Cond)

theorem exec_mkJpCond (w : Word) : exec (.mkJpCond cc w) s = jumpCond cc w s := by
  cases cc <;> rfl

theorem exec_mkJrCond (e : Byte) : exec (.mkJrCond cc e) s = jumpRelCond cc e s := by
  cases cc <;> rfl

theorem exec_mkCallCond (w : Word) : exec (.mkCallCond cc w) s = callCond cc w s := by
  cases cc <;> rfl

theorem exec_mkRetCond : exec (.mkRetCond cc) s = retCond cc s := by
  cases cc <;> rfl

theorem exec_mkRst (t : Octal) : exec (.mkRst t) s = restart t s := by
  cases t <;> rfl

end Families

/-! ## What the shared operations answer -/

section Answers
variable (s : State) (cc : Cond)

/-- A conditional instruction answers one of two next states, by the condition of R321. -/
theorem State.cond_next {yes no : Answer} {t u : State} (hyes : yes = .next t) (hno : no = .next u) :
    (if s.cond cc then yes else no) = .next (if Spec.taken s cc then t else u) := by
  rw [hyes, hno, State.cond_eq_taken, apply_ite Host.Outcome.next]

/-- A jump relative to PC goes to the sum as a number, truncated to a word (R325). -/
theorem State.jumpRel_done (e : Byte) (c : Nat) : (s.setPc (s.regs.pc + sext16 e)).done c = .next
    { s with
      regs := { s.regs with pc := BitVec.ofInt 16 ((s.regs.pc.toNat : Int) + e.toInt) }, ticks := s.ticks + c } := by
  rw [word_add_sext16]
  rfl

/-- A call is the push of PC, and then PC the target (R327). -/
theorem State.callTo_done (w : Word) (c : Nat) : (s.callTo w).done c = .next
    { Spec.pushed s s.regs.pc with
      regs := { s.regs with sp := s.regs.sp - 2, pc := w }, ticks := s.ticks + c } := by
  rw [State.callTo, State.push16_eq_pushed]
  exact State.done_eq rfl (by simp [Spec.pushed]) c

/-- A return is the pop of PC (R329). -/
theorem State.returned_done (c : Nat) : s.returned.done c = .next
    { s with regs := { s.regs with sp := s.regs.sp + 2, pc := Spec.popWord s }, ticks := s.ticks + c } := rfl

theorem jumpCond_eq (w : Word) : jumpCond cc w s = .next
    (if Spec.taken s cc then { s with regs := { s.regs with pc := w }, ticks := s.ticks + 16 }
     else { s with ticks := s.ticks + 12 }) :=
  s.cond_next cc rfl rfl

theorem jumpRelCond_eq (e : Byte) : jumpRelCond cc e s = .next
    (if Spec.taken s cc then
      { s with
        regs := { s.regs with pc := BitVec.ofInt 16 ((s.regs.pc.toNat : Int) + e.toInt) }, ticks := s.ticks + 12 }
     else { s with ticks := s.ticks + 8 }) :=
  s.cond_next cc (s.jumpRel_done e 12) rfl

theorem callCond_eq (w : Word) : callCond cc w s = .next
    (if Spec.taken s cc then
      { Spec.pushed s s.regs.pc with
        regs := { s.regs with sp := s.regs.sp - 2, pc := w }, ticks := s.ticks + 24 }
     else { s with ticks := s.ticks + 12 }) :=
  s.cond_next cc (s.callTo_done w 24) rfl

theorem retCond_eq : retCond cc s = .next
    (if Spec.taken s cc then
      { s with regs := { s.regs with sp := s.regs.sp + 2, pc := Spec.popWord s }, ticks := s.ticks + 20 }
     else { s with ticks := s.ticks + 8 }) :=
  s.cond_next cc (s.returned_done 20) rfl

end Answers

/-! ## The obligations -/

/-- Settles O25: a jump writes PC alone, and a conditional one only when its condition holds. -/
theorem jumps : Obligations.Jumps := fun cc lo hi s =>
  ⟨⟨reads_decodeBytes 0xC3 lo hi, rfl⟩,
    ⟨reads_mkJpCond cc lo hi, (exec_mkJpCond s cc _).trans (jumpCond_eq s cc _)⟩,
    ⟨reads_decodeBytes 0xE9 lo hi, rfl⟩,
    ⟨reads_decodeBytes 0x18 lo hi, s.jumpRel_done lo 12⟩,
    ⟨reads_mkJrCond cc lo hi, (exec_mkJrCond s cc lo).trans (jumpRelCond_eq s cc lo)⟩⟩

/-- Settles O26: a call and a restart push PC, a return pops it, and RETI is a return that also sets the master enable. -/
theorem callsAndReturns : Obligations.CallsAndReturns := fun cc t lo hi s =>
  ⟨⟨reads_decodeBytes 0xCD lo hi, s.callTo_done _ 24⟩,
    ⟨reads_mkCallCond cc lo hi, (exec_mkCallCond s cc _).trans (callCond_eq s cc _)⟩,
    ⟨reads_decodeBytes 0xC9 lo hi, s.returned_done 16⟩,
    ⟨reads_mkRetCond cc lo hi, (exec_mkRetCond s cc).trans (retCond_eq s cc)⟩,
    ⟨reads_decodeBytes 0xD9 lo hi, rfl⟩,
    ⟨reads_mkRst t lo hi, (exec_mkRst s t).trans (s.callTo_done _ 16)⟩⟩

end Sys2Proof.Machine

/-! Proofs of the family 45_system: the system instructions, and the EI delay over whole steps. -/

namespace Sys2Proof.Machine

/-! ## The secondary table -/

/-- An instruction of the secondary table means what its second byte does (R285, R366). -/
theorem exec_decodeCb (n : Byte) (s : State) : exec (decodeCb n) s = cbByte n s := by
  obtain hx | hx | hx | hx := quarter_cases n
  · simpa only [decodeCb, cbByte, hx] using exec_mkRot s _ _
  · simpa only [decodeCb, cbByte, hx] using exec_mkBit s _ _
  · simpa only [decodeCb, cbByte, hx] using exec_mkRes s _ _
  · simpa only [decodeCb, cbByte, hx] using exec_mkSet s _ _

/-- The row of the byte 0xCB completes with the cost of its second byte, and raises no Fatal (R149, R366). -/
theorem exec_prefixCb_completes (n : Byte) (s : State) :
    ∃ t, exec (.prefixCb n) s = .next t ∧ t.fatal = s.fatal ∧ t.ticks = s.ticks + Spec.cbCost n := by
  obtain ⟨t, ht⟩ := exec_completes (.prefixCb n) s
  obtain ⟨-, -, -, -, hfatal, -⟩ := stateFrame _ s t ht
  have hlegal : ∀ b ∈ Spec.illegalBytes, encode (.prefixCb n) ≠ [b] := fun _ _ => nofun
  exact ⟨t, ht, hfatal hlegal, cbByte_costs s n t ht⟩

/-- Settles O27: each row writes the one control state it names, and the row of the byte 0xCB is the CB
instruction of its second byte. -/
theorem systemInstructions : Obligations.SystemInstructions := fun n m s =>
  ⟨⟨reads_decodeBytes 0x00 n m, rfl⟩, ⟨reads_decodeBytes 0x76 n m, rfl⟩, ⟨reads_decodeBytes 0x10 n m, rfl⟩,
    ⟨reads_decodeBytes 0xF3 n m, rfl⟩, ⟨reads_decodeBytes 0xFB n m, rfl⟩,
    ⟨reads_decodeBytes 0xCB n m, (exec_decodeCb n s).symm, exec_prefixCb_completes n s⟩⟩

/-! ## The EI delay -/

section EiRule
variable {s : State}

/-- With no delay pending the EI rule does nothing (R367). -/
theorem State.eiRule_of_zero (h : s.eiDelay = 0) : s.eiRule = s := by simp only [State.eiRule, h]

/-- The delay that runs out sets the master enable (R367). -/
theorem State.eiRule_of_one (h : s.eiDelay = 1) : s.eiRule = { s with ime := true, eiDelay := 0 } := by
  simp only [State.eiRule, h]

/-- A longer delay is counted down, and the master enable waits (R367). -/
theorem State.eiRule_of_add_two {n : Nat} (h : s.eiDelay = n + 2) : s.eiRule = { s with eiDelay := n + 1 } := by
  simp only [State.eiRule, h]

end EiRule

/-- IME and `ei_delay` after a step that does not end fatally: those of the interrupt phase when the core waits, else what
the EI rule makes of those that the instruction at PC leaves (R145). -/
theorem step_ime_eiDelay {s t : State} (h : step s = .next t) (hf : t.fatal = none) :
    let p := s.interruptPhase
    (p.idle = true ∧ t.ime = p.ime ∧ t.eiDelay = p.eiDelay) ∨
      (p.idle = false ∧ ∃ u, exec p.fetchInstr (p.pastFetch p.fetchLength) = .next u ∧
        t.ime = u.eiRule.ime ∧ t.eiDelay = u.eiRule.eiDelay) := by
  obtain ⟨hs, ⟨hidle, rfl⟩ | ⟨hidle, u, hu, hx, rfl⟩⟩ := step_cases h
  · obtain ⟨_, _, _, _, he⟩ := (s.interruptPhase.tick 4).endStep_ppuPhase_eq s.ticks
    exact .inl ⟨hidle, by rw [he]; exact ⟨rfl, rfl⟩⟩
  · refine .inr ⟨hidle, u, hx, ?_⟩
    obtain ⟨op, rfl⟩ | hkept := hu.fatal_cases
    · exact nomatch hf
    · have hrunning : u.fatal = none := hkept.trans (s.interruptPhase_fatal.trans hs)
      obtain ⟨_, _, _, _, he⟩ := u.eiRule.endStep_ppuPhase_eq s.ticks
      rw [State.afterExec_of_running _ hrunning, he]
      exact ⟨rfl, rfl⟩

/-- Settles O32: EI, DI and RETI leave a delay of 2, 0 and 0, every other instruction leaves both by its frame, and the EI
rule follows. -/
theorem enableDelay : Obligations.EnableDelay := by
  intro s t h hf p i
  obtain ⟨hidle, hkept⟩ | ⟨hidle, u, hu, hime, hdelay⟩ := step_ime_eiDelay h hf
  · exact ⟨fun _ => hkept, fun hrun => absurd (hidle.symm.trans hrun) (by decide)⟩
  refine ⟨fun hwait => absurd (hwait.symm.trans hidle) (by decide), fun _ => ?_⟩
  have hexec : exec i (p.pastFetch p.fetchLength) = .next u := hu
  have hrow : ∀ {j : Instr} {v : State}, exec j (p.pastFetch p.fetchLength) = .next v → i = j → u = v :=
    fun hv hi => Host.Outcome.next.inj (hexec.symm.trans (hi ▸ hv))
  rw [hime, hdelay]
  refine ⟨fun hi => hrow rfl hi ▸ ⟨rfl, rfl⟩, fun hi => hrow rfl hi ▸ ⟨rfl, rfl⟩, fun hi => hrow rfl hi ▸ ⟨rfl, rfl⟩,
    fun hei hdi hreti => ?_⟩
  obtain ⟨-, hmaster, -⟩ := stateFrame i _ u hexec
  obtain ⟨huime, hudelay⟩ : u.ime = p.ime ∧ u.eiDelay = p.eiDelay := hmaster hdi hei hreti
  refine ⟨fun hd => ?_, fun hd => ?_, fun n hd => ?_⟩
  · rw [State.eiRule_of_zero (hudelay.trans hd)]
    exact ⟨huime, hudelay.trans hd⟩
  · rw [State.eiRule_of_one (hudelay.trans hd)]
    exact ⟨rfl, rfl⟩
  · rw [State.eiRule_of_add_two (hudelay.trans hd)]
    exact ⟨huime, rfl⟩

end Sys2Proof.Machine

/-! Proofs of the family 60_exceptions: the interrupt phase and the entry it may take, the fatal stop, the divider and the
timer, and what raises an interrupt source. -/

namespace Sys2Proof.Machine

/-! ## A byte stored where a byte was stored -/

/-- Storing the byte that an address already holds changes nothing: equal contents are equal data. -/
theorem Memory.write_read_self {st : Store} {m : Memory} {a : Nat} (hm : Memory.wf st m = true)
    (ha : st.holds a = true) : Memory.write st m a (Memory.read st m a) = m := by
  refine Memory.ext_of_read (Memory.wf_write _ hm ha) hm fun b => ?_
  rw [Memory.read_write a b _ hm]
  split
  · next hb => rw [hb]
  · rfl

/-- Of two bytes stored at one address the second is left. -/
theorem Memory.write_write_same {st : Store} {m : Memory} {a : Nat} (v w : Byte) (hm : Memory.wf st m = true)
    (ha : st.holds a = true) : Memory.write st (Memory.write st m a v) a w = Memory.write st m a w := by
  have hv := Memory.wf_write v hm ha
  refine Memory.ext_of_read (Memory.wf_write w hv ha) (Memory.wf_write w hm ha) fun b => ?_
  rw [Memory.read_write a b w hv, Memory.read_write a b w hm, Memory.read_write a b v hm]
  split <;> rfl

theorem State.poke_peek_self {s : State} {a : Nat} (hs : Memory.wf .bus s.mem = true) (ha : Store.holds .bus a = true) :
    s.poke a (s.peek a) = s :=
  congrArg (fun m => { s with mem := m }) (Memory.write_read_self hs ha)

theorem State.poke_poke_same {s : State} {a : Nat} (v w : Byte) (hs : Memory.wf .bus s.mem = true)
    (ha : Store.holds .bus a = true) : (s.poke a v).poke a w = s.poke a w :=
  congrArg (fun m => { s with mem := m }) (Memory.write_write_same v w hs ha)

/-! ## The interrupt sources -/

/-- A source's mask is the power of two of its bit (R393). -/
theorem Irq.mask_eq (k : Irq) : k.mask = BitVec.ofNat 8 (2 ^ k.bit) := by cases k <;> rfl

/-- The service addresses are 8 apart, from 0x0040 (R404). -/
theorem Irq.vector_eq (k : Irq) : k.vector = BitVec.ofNat 16 (0x40 + 8 * k.bit) := by cases k <;> rfl

/-- Over memory in canonical form raising a source is one store to IF: of the byte it holds when the source's IE bit is 0
(R396). -/
theorem State.raiseIrq_eq_poke {s : State} (k : Irq) (hs : Memory.wf .bus s.mem = true) :
    s.raiseIrq k = s.poke 0xFF0F (Spec.raisedIf s k) := by
  unfold State.raiseIrq Spec.raisedIf bitOf
  split
  · rw [k.mask_eq]
  · exact (State.poke_peek_self hs (by decide)).symm

/-- Settles O38: raising a source is one store to IF, and the other operations are their definitions. -/
theorem raisingAndKeyPress : Obligations.RaisingAndKeyPress := fun s k _ ⟨hs, _⟩ =>
  ⟨State.raiseIrq_eq_poke k hs, State.raiseIrq_eq_poke (s := { s with stopped := false }) .joypad hs, rfl, rfl, rfl⟩

/-! ## Interrupt entry -/

/-- Settles O30: the entry is the store to IF and the push, whose two bus writes neither read nor write the control state
set around them. -/
theorem interruptEntry : Obligations.InterruptEntry := by
  intro s k ack t
  have hpush : (ack.withCpu s.regs false 0 s.halted s.ticks).push16 s.regs.pc =
      { t.withCpu s.regs false 0 s.halted s.ticks with regs := { s.regs with sp := s.regs.sp - 2 } } := by
    rw [State.push16_eq_pushed, Spec.pushed, State.memWrite_withCpu, State.memWrite_withCpu]
    rfl
  have hhalted : t.halted = s.halted := by simp [t, ack]
  calc s.enterInterrupt k
    _ = (((ack.withCpu s.regs false 0 s.halted s.ticks).push16 s.regs.pc).setPc k.vector).tick 20 := by
      rw [State.enterInterrupt, k.mask_eq]
      rfl
    _ = _ := by
      rw [hpush, k.vector_eq, ← hhalted]
      rfl

/-! ## The interrupt phase -/

/-- A source's bit of `IE & IF & 0x1F` says whether it asks (R401). -/
theorem State.bitOf_pending (s : State) (k : Irq) : bitOf s.pending k.bit = Spec.asks s k := by
  have hmask : (0x1F : Byte).getLsbD k.bit = true := by cases k <;> rfl
  simp only [bitOf, State.pending, BitVec.getLsbD_and, hmask, Bool.and_true, Spec.asks]

/-- A source that asks has its bit set. -/
theorem State.pending_ne_zero {s : State} {k : Irq} (h : Spec.asks s k = true) : s.pending ≠ 0 := by
  intro hp
  rw [← s.bitOf_pending, hp] at h
  simp [bitOf] at h

/-- With no source asking no bit is set: bits 4..0 are the sources', and the mask has no others. -/
theorem State.pending_eq_zero {s : State} (h : ∀ k, Spec.asks s k = false) : s.pending = 0 := by
  have hbit : ∀ k : Irq, s.pending.getLsbD k.bit = false := fun k => (s.bitOf_pending k).trans (h k)
  have hmask : ∀ i < 8, 5 ≤ i → (0x1F : Byte).getLsbD i = false := by decide
  refine BitVec.eq_of_getLsbD_eq fun i hi => ?_
  show s.pending.getLsbD i = (0#8).getLsbD i
  rw [BitVec.getLsbD_zero]
  match i with
  | 0 => exact hbit .vblank
  | 1 => exact hbit .lcdStat
  | 2 => exact hbit .timer
  | 3 => exact hbit .serial
  | 4 => exact hbit .joypad
  | i + 5 => rw [State.pending, BitVec.getLsbD_and, hmask _ hi (by omega), Bool.and_false]

/-- The source found is the one whose bit is set with none below it (R399). -/
theorem firstIrq_eq_some {p : Byte} {k : Irq} (hk : bitOf p k.bit = true)
    (hlow : ∀ j : Irq, j.bit < k.bit → bitOf p j.bit = false) : firstIrq p = some k := by
  have hclear : ∀ j : Irq, j.bit < k.bit → ¬ bitOf p j.bit = true := fun j hj => Bool.eq_false_iff.mp (hlow j hj)
  have h0 : 0 < k.bit → ¬ bitOf p 0 = true := hclear .vblank
  have h1 : 1 < k.bit → ¬ bitOf p 1 = true := hclear .lcdStat
  have h2 : 2 < k.bit → ¬ bitOf p 2 = true := hclear .timer
  have h3 : 3 < k.bit → ¬ bitOf p 3 = true := hclear .serial
  unfold firstIrq
  cases k with
  | vblank => exact if_pos hk
  | lcdStat => rw [if_neg (h0 (by decide))]; exact if_pos hk
  | timer => rw [if_neg (h0 (by decide)), if_neg (h1 (by decide))]; exact if_pos hk
  | serial => rw [if_neg (h0 (by decide)), if_neg (h1 (by decide)), if_neg (h2 (by decide))]; exact if_pos hk
  | joypad =>
    rw [if_neg (h0 (by decide)), if_neg (h1 (by decide)), if_neg (h2 (by decide)), if_neg (h3 (by decide))]
    exact if_pos hk

/-- With nothing pending the phase does nothing, whatever IME is (R401). -/
theorem State.interruptPhase_of_not_pending {s : State} (h : s.pending = 0) : s.interruptPhase = s := by
  have hnone : firstIrq s.pending = none := by rw [h]; rfl
  have hkept : (if s.pending ≠ 0 then { s with halted := false } else s) = s := if_neg (not_not.mpr h)
  rw [State.interruptPhase, hkept, hnone]
  exact ite_self s

/-- Without IME a pending source ends HALT only (R402). -/
theorem State.interruptPhase_of_disabled {s : State} (h : s.pending ≠ 0) (hime : s.ime = false) :
    s.interruptPhase = { s with halted := false } := by
  rw [State.interruptPhase, if_pos h]
  exact if_neg (Bool.eq_false_iff.mp hime)

/-- With IME the first pending source is entered; ending HALT has not changed which one that is (R399, R401). -/
theorem State.interruptPhase_of_enabled {s : State} {k : Irq} (h : s.pending ≠ 0) (hime : s.ime = true)
    (hk : firstIrq s.pending = some k) : s.interruptPhase = State.enterInterrupt { s with halted := false } k := by
  have hfirst : firstIrq (State.pending { s with halted := false }) = some k := hk
  rw [State.interruptPhase, if_pos h, hfirst]
  exact if_pos hime

/-- Settles O31: a source that asks is a pending bit, and the lowest such bit is the first source found. -/
theorem interruptPhaseTakesTheLowestBit : Obligations.InterruptPhaseTakesTheLowestBit := by
  refine fun s => ⟨fun hnone => State.interruptPhase_of_not_pending (State.pending_eq_zero hnone),
    fun k hk hime => State.interruptPhase_of_disabled (State.pending_ne_zero hk) hime, fun k hk hime hlow => ?_⟩
  have hfirst : firstIrq s.pending = some k :=
    firstIrq_eq_some ((s.bitOf_pending k).trans hk) fun j hj => (s.bitOf_pending j).trans (hlow j hj)
  exact State.interruptPhase_of_enabled (State.pending_ne_zero hk) hime hfirst

/-! ## The fatal stop -/

/-- From a state with a record there is no step (R71). -/
theorem step_of_fatal {s : State} {r : FatalRecord} (h : s.fatal = some r) :
    step s = .fault (.fatalStopped r.opcode r.steps) := by
  rw [step, State.machineStep, h]

/-- A running step that does not wait and whose instruction raises Fatal ends with it (R391). -/
theorem step_of_exec_fatalStop {s : State} {op : Byte} (hs : s.fatal = none) (hidle : s.interruptPhase.idle = false)
    (hx : ∀ u, exec s.interruptPhase.fetchInstr u = fatalStop op u) :
    step s = .next ((s.interruptPhase.pastFetch s.interruptPhase.fetchLength).raiseFatal op) := by
  obtain ⟨t, ht⟩ := step_completes hs
  obtain ⟨-, ⟨hwait, -⟩ | ⟨-, u, -, hu, rfl⟩⟩ := step_cases ht
  · exact absurd hwait (by simp [hidle])
  · cases (hx _).symm.trans hu
    exact ht

/-- An illegal byte is an instruction of its own (R151, R153). -/
theorem opcodeLength_of_illegal {b : Byte} (hb : b ∈ Spec.illegalBytes) : opcodeLength b = 1 := by
  have h : ∀ b ∈ Spec.illegalBytes, opcodeLength b = 1 := by decide
  exact h b hb

/-- A step that ends with a record fetched an illegal byte: no other instruction makes one, and neither do the phases
around it (R391). -/
theorem illegal_of_step_fatal {s t : State} (h : step s = .next t) (ht : t.fatal ≠ none) :
    s.interruptPhase.idle = false ∧ s.interruptPhase.memRead s.interruptPhase.regs.pc ∈ Spec.illegalBytes := by
  obtain ⟨hs, ⟨-, rfl⟩ | ⟨hidle, u, -, hu, rfl⟩⟩ := step_cases h
  · obtain ⟨_, _, _, _, he⟩ := (s.interruptPhase.tick 4).endStep_ppuPhase_eq s.ticks
    rw [he] at ht
    exact absurd (s.interruptPhase_fatal.trans hs) ht
  · refine ⟨hidle, by_contra fun hlegal => ht ?_⟩
    obtain ⟨v, hv, hkept⟩ := (illegalBytesAreExactlyEleven _ _ _ _).2 hlegal
    obtain rfl : v = u := Host.Outcome.next.inj (hv.symm.trans hu)
    have hnone : v.fatal = none := hkept.trans (s.interruptPhase_fatal.trans hs)
    obtain ⟨_, _, _, _, he⟩ := v.eiRule.endStep_ppuPhase_eq s.ticks
    obtain ⟨_, _, -, hei⟩ := v.eiRule_eq
    rw [State.afterExec_of_running _ hnone, he, hei]
    exact hnone

/-- Settles O33: an illegal byte raises Fatal one byte further on, and nothing else does. (The name `fatalStop` is the
model's.) -/
theorem stepFatalStop : Obligations.FatalStop := by
  refine fun s => ⟨fun hs hhalt hstop hop => ?_, fun t => illegal_of_step_fatal, fun r => step_of_fatal⟩
  have hidle : s.interruptPhase.idle = false := by rw [State.idle, hhalt, hstop]; rfl
  rw [step_of_exec_fatalStop hs hidle fun u => exec_decodeBytes_of_illegal _ _ u hop, State.fetchLength,
    opcodeLength_of_illegal hop, ← s.interruptPhase_steps]
  rfl

/-! ## The loops of the divider and the timer -/

/-- One increment of DIV with 256 ticks taken off is nothing to the closed form of the divider (R421). -/
theorem State.advanceDivider_of_increment {s : State} {n : Nat} (hs : Memory.wf .bus s.mem = true)
    (hn : s.divCount = n + 256) :
    State.advanceDivider { s.poke 0xFF04 (s.peek 0xFF04 + 1) with divCount := n } 0 = s.advanceDivider 0 := by
  have hcount : s.peek 0xFF04 + 1 + BitVec.ofNat 8 (n / 256) = s.peek 0xFF04 + BitVec.ofNat 8 ((n + 256) / 256) := by
    rw [Nat.add_div_right n (by decide), Nat.add_comm, BitVec.ofNat_add, BitVec.add_assoc]
    rfl
  calc State.advanceDivider { s.poke 0xFF04 (s.peek 0xFF04 + 1) with divCount := n } 0
    _ = { (s.poke 0xFF04 (s.peek 0xFF04 + 1)).poke 0xFF04
            ((s.poke 0xFF04 (s.peek 0xFF04 + 1)).peek 0xFF04 + BitVec.ofNat 8 (n / 256)) with
          divCount := n % 256 } := rfl
    _ = { s.poke 0xFF04 (s.peek 0xFF04 + BitVec.ofNat 8 ((n + 256) / 256)) with divCount := (n + 256) % 256 } := by
      rw [s.peek_poke_same _ _ hs, hcount, State.poke_poke_same _ _ hs (by decide), Nat.add_mod_right]
    _ = s.advanceDivider 0 := by rw [State.advanceDivider, Nat.add_zero, hn]

/-- Under 256 ticks the closed form of the divider does nothing. -/
theorem State.advanceDivider_of_lt {s : State} (hs : Memory.wf .bus s.mem = true) (h : s.divCount < 256) :
    s.advanceDivider 0 = s := by
  have hsame : s.peek 0xFF04 + BitVec.ofNat 8 (s.divCount / 256) = s.peek 0xFF04 := by
    rw [Nat.div_eq_of_lt h]
    exact BitVec.add_zero _
  rw [State.advanceDivider, Nat.add_zero, hsame, State.poke_peek_self hs (by decide), Nat.mod_eq_of_lt h]

/-- The divider's loop is its closed form, over memory in canonical form and with enough fuel (R425). -/
theorem divLoop_eq {s : State} {fuel : Nat} (hs : Memory.wf .bus s.mem = true) (hfuel : s.divCount ≤ fuel) :
    Spec.divLoop fuel s = s.advanceDivider 0 := by
  induction fuel generalizing s with
  | zero => exact (State.advanceDivider_of_lt hs (by omega)).symm
  | succ fuel ih =>
    rw [Spec.divLoop]
    split
    · next h =>
      obtain ⟨n, hn⟩ := Nat.exists_eq_add_of_le' h
      have hwf : Memory.wf .bus (s.poke 0xFF04 (s.peek 0xFF04 + 1)).mem = true := s.poke_mem_wf _ hs (by decide)
      have hrest : n ≤ fuel := by omega
      rw [hn, Nat.add_sub_cancel, ← State.advanceDivider_of_increment hs hn]
      exact ih hwf hrest
    · next h => exact (State.advanceDivider_of_lt hs (by omega)).symm

/-- The timer's sub-count replaced. -/
def State.withTimaCount (n : Nat) (s : State) : State := { s with timaCount := n }

/-- A timer increment neither reads nor writes the sub-count. -/
theorem State.timerIncrement_withTimaCount (n : Nat) (s : State) :
    (s.withTimaCount n).timerIncrement = s.timerIncrement.withTimaCount n := by
  have hraise : ∀ t : State, (t.withTimaCount n).raiseIrq .timer = (t.raiseIrq .timer).withTimaCount n := fun t => by
    rw [State.raiseIrq, State.raiseIrq, apply_ite (State.withTimaCount n)]
    rfl
  rw [State.timerIncrement, State.timerIncrement, apply_ite (State.withTimaCount n), ← hraise]
  rfl

/-- What commutes with a function commutes with its repetition. -/
theorem repeatN_commute {α : Type} {f g : α → α} (h : ∀ x, f (g x) = g (f x)) (n : Nat) (x : α) :
    repeatN f n (g x) = g (repeatN f n x) := by
  induction n generalizing x with
  | zero => rfl
  | succ n ih => rw [repeatN, repeatN, h, ih]

/-- The timer's loop with enough fuel makes one increment per period, and leaves the remainder (R425). -/
theorem timaLoop_eq {s : State} {per fuel : Nat} (hper : 0 < per) (hfuel : s.timaCount ≤ fuel) :
    Spec.timaLoop per fuel s =
      (repeatN State.timerIncrement (s.timaCount / per) s).withTimaCount (s.timaCount % per) := by
  have hdone : ∀ {t : State}, t.timaCount < per →
      t = (repeatN State.timerIncrement (t.timaCount / per) t).withTimaCount (t.timaCount % per) := fun ht => by
    rw [Nat.div_eq_of_lt ht, Nat.mod_eq_of_lt ht]
    rfl
  induction fuel generalizing s with
  | zero => exact hdone (hfuel.trans_lt hper)
  | succ fuel ih =>
    rw [Spec.timaLoop]
    split
    · next h =>
      have hstep : Spec.timerTick { s with timaCount := s.timaCount - per } =
          s.timerIncrement.withTimaCount (s.timaCount - per) := s.timerIncrement_withTimaCount _
      rw [hstep, ih (by show s.timaCount - per ≤ fuel; omega), repeatN_commute (State.timerIncrement_withTimaCount _),
        Nat.div_eq_sub_div hper h, Nat.mod_eq_sub_mod h]
      rfl
    · next h => exact hdone (by omega)

/-- TAC selects the period of R423. -/
theorem timerPeriod_eq (s : State) : Spec.timerPeriod s = tacPeriod (s.peek 0xFF07) := by
  have hfield : field (s.peek 0xFF07) 0 2 = (s.peek 0xFF07).toNat % 4 := by simp [field]
  have hlt := Nat.mod_lt (s.peek 0xFF07).toNat (show 0 < 4 by decide)
  rw [Spec.timerPeriod, tacPeriod, hfield]
  generalize (s.peek 0xFF07).toNat % 4 = k at hlt ⊢
  interval_cases k <;> rfl

/-- The timer's part of R425, over its loop. -/
theorem State.advanceTimer_eq_loop {s : State} {d fuel : Nat} (hfuel : s.timaCount + d ≤ fuel) :
    s.advanceTimer d = if (s.peek 0xFF07).getLsbD 2 then
        Spec.timaLoop (Spec.timerPeriod s) fuel (s.withTimaCount (s.timaCount + d))
      else s := by
  rw [timerPeriod_eq, timaLoop_eq (tacPeriod_pos _) hfuel, repeatN_commute (State.timerIncrement_withTimaCount _)]
  rfl

/-- Settles O36: the divider's loop is its closed form, and then the timer's loop is the timer's. -/
theorem timerAdvanceIsTheSpecLoop : Obligations.TimerAdvanceIsTheSpecLoop := by
  rintro s d fuel ⟨hs, -⟩ hdiv htima
  have hloop : Spec.divLoop fuel { s with divCount := s.divCount + d } = s.advanceDivider d :=
    divLoop_eq (s := { s with divCount := s.divCount + d }) hs hdiv
  rw [Spec.advanceTimers, hloop]
  exact State.advanceTimer_eq_loop (s := s.advanceDivider d) htima

end Sys2Proof.Machine

/-! Proofs of the family 61_ppu: how the mode machine moves through the frame, what the end of each mode does, and the
shades of a composed line. -/

namespace Sys2Proof.Machine

/-! ## The place of a mode in the frame -/

/-- Tick of the frame at which the PPU's present line and mode began (R452). -/
def Ppu.modeTime (p : Ppu) : Nat := p.line * 456 + Spec.modeStart p.mode

theorem framePosition_eq (p : Ppu) : Spec.framePosition p = p.modeTime + p.budget := rfl

/-- No mode reaches past the frame's end, or past tick 65664, the start of line 144. -/
theorem Ppu.lineForm.modeTime_add_duration {p : Ppu} (h : p.lineForm) :
    p.modeTime + p.mode.duration ≤ 70224 ∧ (p.modeTime + p.mode.duration ≤ 65664 ∨ 65664 ≤ p.modeTime) := by
  obtain ⟨hline, hmode⟩ := h
  unfold Ppu.modeTime
  cases hm : p.mode <;> simp only [hm, reduceCtorEq, true_iff, false_iff] at hmode <;>
    simp only [Spec.modeStart, PpuMode.duration] <;> omega

/-- The next mode begins where the mode ended, in this frame or at tick 0 of the next (R453 to R456). -/
theorem State.endOfMode_modeTime {s : State} (h : s.ppu.lineForm) :
    s.endOfMode.ppu.modeTime = s.ppu.modeTime + s.ppu.mode.duration ∨
      s.endOfMode.ppu.modeTime + 70224 = s.ppu.modeTime + s.ppu.mode.duration := by
  obtain ⟨hline, -⟩ := h
  unfold State.endOfMode Ppu.modeTime
  cases hm : s.ppu.mode with
  | oamScan => exact .inl (by simp [State.endOamScan, Spec.modeStart, PpuMode.duration])
  | transfer =>
    obtain ⟨fb, hfb⟩ := s.endTransfer_ppu
    exact .inl (by simp [hfb, Spec.modeStart, PpuMode.duration])
  | hblank =>
    simp only [s.endHblank_ppu, Spec.modeStart, PpuMode.duration]
    split <;> exact .inl (by dsimp only; omega)
  | vblank =>
    simp only [s.endVblank_ppu, Spec.modeStart, PpuMode.duration]
    split
    · exact .inr (by dsimp only; omega)
    · exact .inl (by simp only [hm]; omega)

/-- The frame flag is set at the end of the mode that ends at the start of line 144 (R455). -/
theorem State.endOfMode_frameReady {s : State} (h : s.ppu.lineForm) : s.endOfMode.ppu.frameReady = true ↔
    s.ppu.frameReady = true ∨ s.ppu.modeTime + s.ppu.mode.duration = 65664 := by
  obtain ⟨-, hmode⟩ := h
  unfold State.endOfMode Ppu.modeTime
  cases hm : s.ppu.mode with
  | oamScan =>
    simp only [State.endOamScan, State.setMode_ppu, Spec.modeStart, PpuMode.duration]
    exact (or_iff_left (by omega)).symm
  | transfer =>
    obtain ⟨fb, hfb⟩ := s.endTransfer_ppu
    simp only [hfb, Spec.modeStart, PpuMode.duration]
    exact (or_iff_left (by omega)).symm
  | hblank =>
    simp only [s.endHblank_ppu, Spec.modeStart, PpuMode.duration]
    split
    · exact iff_of_true rfl (.inr (by omega))
    · exact (or_iff_left (by omega)).symm
  | vblank =>
    have hhigh : 144 ≤ s.ppu.line := hmode.mp hm
    simp only [s.endVblank_ppu, Spec.modeStart, PpuMode.duration]
    split <;> exact (or_iff_left (by omega)).symm

/-- A transition of the loop of R451 spends the mode's duration and begins the next mode at its place. -/
theorem State.transition_modeTime {s : State} (h : s.ppu.lineForm) :
    let t := (s.setBudget (s.ppu.budget - s.ppu.mode.duration)).endOfMode
    t.ppu.lineForm ∧ t.ppu.budget = s.ppu.budget - s.ppu.mode.duration ∧
      (t.ppu.modeTime = s.ppu.modeTime + s.ppu.mode.duration ∨
        t.ppu.modeTime + 70224 = s.ppu.modeTime + s.ppu.mode.duration) ∧
      (t.ppu.frameReady = true ↔ s.ppu.frameReady = true ∨ s.ppu.modeTime + s.ppu.mode.duration = 65664) := by
  have hform : (s.setBudget (s.ppu.budget - s.ppu.mode.duration)).ppu.lineForm := h
  exact ⟨(State.endOfMode_lineForm _ hform).1, State.endOfMode_budget _, State.endOfMode_modeTime hform,
    State.endOfMode_frameReady hform⟩

/-- With less budget than the mode lasts, the position has not reached the start of line 144 since the mode began. -/
theorem Ppu.lineForm.not_reached {p : Ppu} (h : p.lineForm) (hlt : p.budget < p.mode.duration) :
    (p.modeTime + 4560) / 70224 = (Spec.framePosition p + 4560) / 70224 := by
  obtain ⟨hframe, h144⟩ := h.modeTime_add_duration
  rw [framePosition_eq]
  omega

/-- The loop of R451 keeps the position in the frame, and sets the frame flag when the budget it spends reaches the
start of line 144. -/
theorem ppuLoop_framePosition (fuel : Nat) (s : State) (h : s.ppu.lineForm) (hfuel : s.ppu.budget / 80 ≤ fuel) :
    Spec.framePosition (ppuLoop fuel s).ppu % 70224 = Spec.framePosition s.ppu % 70224 ∧
      ((ppuLoop fuel s).ppu.frameReady = true ↔ s.ppu.frameReady = true ∨
        (s.ppu.modeTime + 4560) / 70224 < (Spec.framePosition s.ppu + 4560) / 70224) := by
  induction fuel generalizing s with
  | zero =>
    have hdur := s.ppu.mode.duration_ge
    exact ⟨rfl, by simp [h.not_reached (by omega), ppuLoop]⟩
  | succ fuel ih =>
    have hdur := s.ppu.mode.duration_ge
    unfold ppuLoop
    split
    · next hle =>
      obtain ⟨hform, hbudget, htime, hready⟩ := State.transition_modeTime h
      obtain ⟨hframe, h144⟩ := h.modeTime_add_duration
      generalize (s.setBudget (s.ppu.budget - s.ppu.mode.duration)).endOfMode = t at hform hbudget htime hready ⊢
      obtain ⟨hpos, hflag⟩ := ih t hform (by omega)
      rw [hpos, hflag, hready, or_assoc, framePosition_eq, framePosition_eq]
      exact ⟨by omega, or_congr_right (by omega)⟩
    · next hlt => exact ⟨rfl, by simp [h.not_reached (by omega)]⟩

/-- The state in which the loop of a PPU step starts: the ticks not yet seen are added to the budget (R451). -/
def State.ppuTicked (s : State) : State :=
  { s with ppu := { s.ppu with budget := s.ppu.budget + (s.ticks - s.ppu.last), last := s.ticks } }

theorem State.ppuStep_eq_loop (s : State) : s.ppuStep = ppuLoop (s.ppuTicked.ppu.budget / 80) s.ppuTicked := rfl

theorem State.framePosition_ppuTicked (s : State) :
    Spec.framePosition s.ppuTicked.ppu = Spec.framePosition s.ppu + (s.ticks - s.ppu.last) :=
  (Nat.add_assoc _ _ _).symm

/-- Settles O46: the loop starts at the position that the new ticks make, in a mode that began before them. -/
theorem ppuKeepsFrameTime : Obligations.PpuKeepsFrameTime := by
  intro s hline hmode hbudget hlast
  have hform : s.ppuTicked.ppu.lineForm := ⟨hline, hmode⟩
  have hstart : (s.ppuTicked.ppu.modeTime + 4560) / 70224 = (Spec.framePosition s.ppu + 4560) / 70224 :=
    Ppu.lineForm.not_reached ⟨hline, hmode⟩ hbudget
  obtain ⟨hline', hmode', hbudget', -, -⟩ := s.ppuStep_ppuForm ⟨hline, hmode⟩
  obtain ⟨hpos, hflag⟩ := ppuLoop_framePosition _ s.ppuTicked hform le_rfl
  have hlast' := (ppuLoop_lineForm (s.ppuTicked.ppu.budget / 80) s.ppuTicked hform).2
  rw [← s.ppuStep_eq_loop] at hpos hflag hlast'
  rw [s.framePosition_ppuTicked] at hpos hflag
  have hinframe : Spec.framePosition s.ppuStep.ppu < 70224 := by
    have hend := (Ppu.lineForm.modeTime_add_duration ⟨hline', hmode'⟩).1
    rw [framePosition_eq]
    omega
  refine ⟨(Nat.mod_eq_of_lt hinframe).symm.trans hpos, hline', hmode', hbudget', hlast', ?_⟩
  rw [Bool.eq_iff_iff, hflag, hstart, Bool.or_eq_true, decide_eq_true_eq]
  rfl

/-! ## The end of each mode -/

/-- A bit of a stored byte is 1 where the model reads it as set. -/
theorem bitAt_eq_one (s : State) (a i : Nat) : Spec.bitAt s a i = 1 ↔ bitOf (s.peek a) i = true := Bool.toNat_eq_one

theorem bitAt_eq_zero (s : State) (a i : Nat) : Spec.bitAt s a i = 0 ↔ bitOf (s.peek a) i = false := Bool.toNat_eq_zero

/-- With the display off no line is rendered (R460). -/
theorem State.renderLine_of_off {s : State} (h : Spec.bitAt s 0xFF40 7 = 0) : s.renderLine = s := by
  rw [bitAt_eq_zero] at h
  exact if_neg (by rw [State.lcdc, h]; nofun)

/-- With the display on a visible line is rendered into its place of the framebuffer (R460, R463). -/
theorem State.renderLine_of_on {s : State} (h : Spec.bitAt s 0xFF40 7 = 1) (hline : s.ppu.line < 144) :
    s.renderLine =
      { s with ppu :=
        { s.ppu with framebuffer := s.ppu.framebuffer.set s.ppu.line (s.composeLine s.ppu.line) hline } } := by
  rw [bitAt_eq_one] at h
  rw [State.renderLine, State.lcdc, if_pos h]
  simp [Vector.setIfInBounds, Vector.set, Array.setIfInBounds, hline]

/-- Raising a source neither reads nor writes the PPU's own state. -/
theorem State.raiseIrq_withPpu (s : State) (p : Ppu) (k : Irq) :
    State.raiseIrq { s with ppu := p } k = { s.raiseIrq k with ppu := p } := by
  have hpeek : State.peek { s with ppu := p } = s.peek := rfl
  unfold State.raiseIrq
  rw [hpeek]
  split <;> rfl

/-- The end of H-blank before line 144 raises vblank and sets the frame flag (R455). -/
theorem State.endHblank_vblank {s : State} (h : s.ppu.line + 1 = 144) : s.endHblank =
    { s.raiseIrq .vblank with ppu := { s.ppu with line := 144, frameReady := true, mode := .vblank } } := by
  have hraise : (s.setLine (s.ppu.line + 1)).raiseIrq .vblank = _ := s.raiseIrq_withPpu _ .vblank
  rw [State.endHblank]
  dsimp only
  rw [if_pos (show (s.setLine (s.ppu.line + 1)).ppu.line = 144 from h), hraise, h]

/-- Settles O45: each mode has its own end; a raise in front of it leaves the PPU's own state to it. -/
theorem ppuModeEnds : Obligations.PpuModeEnds := by
  intro s
  refine ⟨fun hm => ?_, fun hm => ?_, fun hm => ?_, fun hm => ?_⟩
  · simp only [State.endOfMode, hm]
    rfl
  · intro r
    have hr : r.ppu = s.ppu := by
      unfold r
      split
      · exact s.raiseIrq_ppu _
      · rfl
    have hend : s.endOfMode = r.renderLine.setMode .hblank := by
      simp only [State.endOfMode, hm]
      rfl
    rw [hend]
    refine ⟨fun hoff => ?_, fun hon hline => ?_⟩
    · rw [State.renderLine_of_off hoff, ← hr]
      rfl
    · rw [State.renderLine_of_on hon (hr ▸ hline)]
      simp only [hr]
      rfl
  · have hend : s.endOfMode = s.endHblank := by simp only [State.endOfMode, hm]
    rw [hend]
    exact ⟨State.endHblank_vblank, fun hne => if_neg hne⟩
  · have hend : s.endOfMode = s.endVblank := by simp only [State.endOfMode, hm]
    rw [hend]
    exact ⟨fun hlt => if_neg (show ¬ 153 < s.ppu.line + 1 by omega),
      fun heq => if_pos (show 153 < s.ppu.line + 1 by omega)⟩

/-! ## The model's colours and shades are the spec's -/

/-- A colour index put together from its two bits (R104). -/
theorem toNat_twoBits (hi lo : Bool) : (BitVec.ofBool hi ++ BitVec.ofBool lo).toNat = lo.toNat + 2 * hi.toNat := by
  cases hi <;> cases lo <;> rfl

@[simp] theorem State.tilePixel_toNat (s : State) (tile row col : Nat) :
    (s.tilePixel tile row col).toNat = Spec.tileColour s tile row col := toNat_twoBits _ _

/-- The signed tile number counts from tile 256 (R105). -/
theorem bgTile_eq (s : State) (n : Byte) : bgTile (bitOf s.lcdc 4) n = Spec.bgTileOf s n := by
  refine if_congr (bitAt_eq_one s _ _).symm rfl ?_
  rw [BitVec.toInt_eq_toNat_cond]
  split <;> split <;> omega

@[simp] theorem State.mapPixel_toNat (s : State) (map px py : Nat) :
    (s.mapPixel map px py).toNat = Spec.mapColour s map px py := by
  rw [State.mapPixel, State.tilePixel_toNat, bgTile_eq]
  rfl

@[simp] theorem palette_toNat (p : Byte) (i : BitVec 2) : (palette p i).toNat = Spec.shadeOf p i.toNat := by
  simp [palette, Spec.shadeOf, BitVec.extractLsb'_toNat, Nat.shiftRight_eq_div_pow]

/-- The window test without the subtraction that may go below 0 (R473). -/
theorem State.inWindow_iff (s : State) (x ly : Nat) : s.inWindow x ly = true ↔
    Spec.bitAt s 0xFF40 5 = 1 ∧ 0 ≤ (ly : Int) - (s.peek 0xFF4A).toNat ∧
      0 ≤ (x : Int) - ((s.peek 0xFF4B).toNat - 7) := by
  simp only [State.inWindow, State.lcdc, Bool.and_eq_true, decide_eq_true_eq, bitAt_eq_one, and_assoc]
  exact and_congr_right fun _ => by omega

/-- The background is enabled (R464). -/
theorem State.bgEnabled_iff (s : State) : bitOf s.lcdc 0 = true ↔ ¬ Spec.bitAt s 0xFF40 0 = 0 := by
  rw [bitAt_eq_zero, Bool.not_eq_false]
  rfl

/-- The background's and the window's colour index (R464, R465, R473). -/
@[simp] theorem State.bgIndex_toNat (s : State) (x ly : Nat) : (s.bgIndex x ly).toNat = Spec.bgColour s x ly := by
  have hmap : ∀ i, (if bitOf s.lcdc i then 0x9C00 else 0x9800) = if Spec.bitAt s 0xFF40 i = 1 then 0x9C00 else 0x9800 :=
    fun i => if_congr (bitAt_eq_one s _ i).symm rfl rfl
  have hx : x + 7 - (s.peek 0xFF4B).toNat = ((x : Int) - ((s.peek 0xFF4B).toNat - 7)).toNat := by omega
  have hy : ly - (s.peek 0xFF4A).toNat = ((ly : Int) - (s.peek 0xFF4A).toNat).toNat := by omega
  have hwindow := s.inWindow_iff x ly
  unfold State.bgIndex Spec.bgColour
  simp only [s.bgEnabled_iff, hwindow, hmap, hx, hy, apply_ite BitVec.toNat, State.mapPixel_toNat, ite_not]
  rfl

@[simp] theorem State.bgShade_toNat (s : State) (x ly : Nat) : (s.bgShade x ly).toNat = Spec.bgShadeOf s x ly := by
  unfold State.bgShade Spec.bgShadeOf
  simp only [s.bgEnabled_iff, apply_ite BitVec.toNat, palette_toNat, State.bgIndex_toNat, ite_not]
  rfl

@[simp] theorem State.getElem_bgLine (s : State) (ly x : Nat) (h : x < 160) : (s.bgLine ly)[x] = s.bgShade x ly := by
  simp [State.bgLine]

/-- Settles O47: with the sprite layer off the composed line is the background's, column by column. -/
theorem backgroundAndWindow : Obligations.BackgroundAndWindow := by
  intro s ly x h hoff
  have hline : s.composeLine ly = s.bgLine ly := if_neg (by rw [State.lcdc, (bitAt_eq_zero s _ _).mp hoff]; nofun)
  rw [hline, State.getElem_bgLine, State.bgShade_toNat]

/-! ## The sprites over a line -/

/-- An entry leaves a column as it was unless it writes a shade there (R474 to R477). -/
theorem State.getElem_drawSprite (s : State) (ly : Nat) (below : Vector Shade 160) (o : Sprite) (x : Nat)
    (h : x < 160) : (s.drawSprite ly below o)[x] = (s.spritePixel o x ly).getD below[x] := by
  unfold State.drawSprite
  split
  · exact Vector.getElem_ofFn _
  · next hc => simp [State.spritePixel, hc]

/-- The shade that the entries before entry `n` leave at a column, over the shade `c` (R474). -/
def State.spritesOver (s : State) (ly x : Nat) (c : Shade) (n : Nat) : Shade :=
  match n with
  | 0 => c
  | n + 1 => (s.spritePixel (s.sprite n) x ly).getD (s.spritesOver ly x c n)

/-- A composed line with sprites holds the 40 entries' shades over the background's. -/
theorem State.getElem_composeLine {s : State} (hon : Spec.bitAt s 0xFF40 1 = 1) (ly x : Nat) (h : x < 160) :
    (s.composeLine ly)[x] = s.spritesOver ly x (s.bgShade x ly) 40 := by
  have hfold : ∀ n, (((List.range n).map s.sprite).foldl (s.drawSprite ly) (s.bgLine ly))[x] =
      s.spritesOver ly x (s.bgShade x ly) n := by
    intro n
    induction n with
    | zero => exact s.getElem_bgLine ly x h
    | succ n ih =>
      simp only [List.range_succ, List.map_append, List.map_cons, List.map_nil, List.foldl_append, List.foldl_cons,
        List.foldl_nil, State.getElem_drawSprite, ih, State.spritesOver]
  have hline : s.composeLine ly = ((List.range 40).map s.sprite).foldl (s.drawSprite ly) (s.bgLine ly) :=
    if_pos ((bitAt_eq_one s _ _).mp hon)
  simp only [hline, hfold]

/-- Entries that draw nothing leave the shade that the entries before them left. -/
theorem State.spritesOver_of_none {s : State} {ly x : Nat} (c : Shade) {i n : Nat} (hin : i ≤ n)
    (h : ∀ j, i ≤ j → j < n → s.spritePixel (s.sprite j) x ly = none) :
    s.spritesOver ly x c n = s.spritesOver ly x c i := by
  induction n, hin using Nat.le_induction with
  | base => rfl
  | succ n hin ih =>
    rw [State.spritesOver, h n hin (Nat.lt_succ_self n)]
    exact ih fun j h1 h2 => h j h1 (h2.trans (Nat.lt_succ_self n))

/-- Where an entry draws: the lines of R474 and the eight columns of R476, over integers. -/
theorem Sprite.draws_iff (o : Sprite) (h x ly : Nat) : (o.covers h ly && o.hasColumn x) = true ↔
    (o.y : Int) - 16 ≤ ly ∧ (ly : Int) < o.y - 16 + h ∧ (o.x : Int) - 8 ≤ x ∧ (x : Int) ≤ o.x - 8 + 7 := by
  simp only [Sprite.covers, Sprite.hasColumn, Bool.and_eq_true, decide_eq_true_eq]
  omega

theorem State.spriteHeight_eq (s : State) : s.spriteHeight = if Spec.bitAt s 0xFF40 2 = 1 then 16 else 8 :=
  if_congr (bitAt_eq_one s _ _).symm rfl rfl

/-- The tile number of a tall sprite without its lowest bit (R475). -/
theorem toNat_and_254 (v : Byte) : (v &&& 0xFE).toNat = v.toNat / 2 * 2 := by
  have h : ∀ v : Byte, (v &&& 0xFE).toNat = v.toNat / 2 * 2 := by decide
  exact h v

/-- The background counts as non-zero for the priority test (R477). -/
theorem State.bgNonZero_iff (s : State) (x ly : Nat) : s.bgNonZero x ly = true ↔
    (match s.params.priorityTest with
      | .colorIndex => Spec.bgColour s x ly
      | .shade => Spec.bgShadeOf s x ly) ≠ 0 := by
  unfold State.bgNonZero
  cases s.params.priorityTest <;> simp [← BitVec.toNat_inj]

/-- The colour index of an entry, over the spec's subtractions (R475, R476). -/
theorem State.spriteIndex_toNat (s : State) (i x ly : Nat) : (s.spriteIndex (s.sprite i) x ly).toNat =
    let attr := Spec.bitAt s (0xFE00 + 4 * i + 3)
    let tileNo := (s.peek (0xFE00 + 4 * i + 2)).toNat
    let row0 := ((ly : Int) - ((s.peek (0xFE00 + 4 * i)).toNat - 16)).toNat
    let row := if attr 6 = 1 then s.spriteHeight - 1 - row0 else row0
    let c := ((x : Int) - ((s.peek (0xFE00 + 4 * i + 1)).toNat - 8)).toNat
    Spec.tileColour s (if s.spriteHeight = 16 then tileNo / 2 * 2 + row / 8 else tileNo) (row % 8)
      (if attr 5 = 1 then 7 - c else c) := by
  have hrow : ly + 16 - (s.peek (0xFE00 + 4 * i)).toNat =
    ((ly : Int) - ((s.peek (0xFE00 + 4 * i)).toNat - 16)).toNat := by omega
  have hcol : x + 8 - (s.peek (0xFE00 + 4 * i + 1)).toNat =
    ((x : Int) - ((s.peek (0xFE00 + 4 * i + 1)).toNat - 8)).toNat := by omega
  simp only [bitAt_eq_one, ← hrow, ← hcol, ← toNat_and_254]
  exact s.tilePixel_toNat _ _ _

/-- An entry writes at a column what the rules say it does (R474 to R477). -/
theorem State.spritePixel_toNat (s : State) (i x ly : Nat) :
    (s.spritePixel (s.sprite i) x ly).map BitVec.toNat = Spec.spriteShade s i x ly := by
  have hindex := s.spriteIndex_toNat i x ly
  have hzero : s.spriteIndex (s.sprite i) x ly = 0 ↔ (s.spriteIndex (s.sprite i) x ly).toNat = 0 :=
    BitVec.toNat_inj.symm
  unfold State.spritePixel Spec.spriteShade
  dsimp only
  rw [← s.spriteHeight_eq]
  refine (apply_ite (Option.map BitVec.toNat) _ _ _).trans
    (if_congr ((s.sprite i).draws_iff s.spriteHeight x ly) ?_ rfl)
  refine (apply_ite (Option.map BitVec.toNat) _ _ _).trans (if_congr ?_ rfl ?_)
  · rw [hzero, hindex]
  refine (apply_ite (Option.map BitVec.toNat) _ _ _).trans (if_congr ?_ rfl ?_)
  · rw [Bool.and_eq_true, s.bgNonZero_iff]
    exact and_congr_left' (bitAt_eq_one s _ 7).symm
  · exact congrArg some ((palette_toNat _ _).trans (congrArg₂ (fun a c => Spec.shadeOf (s.peek a) c)
      (if_congr (bitAt_eq_one s _ 4).symm rfl rfl) hindex))

theorem State.spritePixel_eq_none_iff {s : State} {i x ly : Nat} :
    s.spritePixel (s.sprite i) x ly = none ↔ Spec.spriteShade s i x ly = none := by
  rw [← s.spritePixel_toNat, Option.map_eq_none_iff]

/-- Settles O48: the shade at a column is that of the last entry that draws, over the background's. -/
theorem spritesOverBackground : Obligations.SpritesOverBackground := by
  intro s ly x h hon
  rw [State.getElem_composeLine hon]
  refine ⟨fun hnone => ?_, fun i c hi hc hlast => ?_⟩
  · rw [State.spritesOver_of_none _ (Nat.zero_le 40) fun j _ hj => State.spritePixel_eq_none_iff.mpr (hnone j hj)]
    exact s.bgShade_toNat x ly
  · rw [State.spritesOver_of_none _ (Nat.succ_le_of_lt hi) fun j hij hj =>
      State.spritePixel_eq_none_iff.mpr (hlast j hij hj)]
    rw [← s.spritePixel_toNat, Option.map_eq_some_iff] at hc
    obtain ⟨shade, hshade, rfl⟩ := hc
    rw [State.spritesOver, hshade]
    rfl

end Sys2Proof.Machine

/-! Proofs of the family 62_apu: the triggers, the APU tick of each channel, its levels, and the samples of a render. -/

namespace Sys2Proof.Machine

/-! ## The registers as numbers -/

/-- The frequency of a channel is the spec's number (R511). -/
theorem State.freq_toNat (s : State) (lo hi : Nat) : (s.freq lo hi).toNat = Spec.freqOf (s.peek hi) (s.peek lo) := by
  have hlow := (s.peek lo).isLt
  rw [State.freq, BitVec.toNat_append, Nat.shiftLeft_eq, Nat.mul_comm, ← Nat.two_pow_add_eq_or_of_lt hlow,
    BitVec.extractLsb'_toNat, Spec.freqOf, Nat.mul_comm]
  rfl

theorem State.freq_eq_ofNat (s : State) (lo hi : Nat) :
    s.freq lo hi = BitVec.ofNat 11 (Spec.freqOf (s.peek hi) (s.peek lo)) := by
  rw [← State.freq_toNat, BitVec.ofNat_toNat, BitVec.setWidth_eq]

/-- The period of a square channel (R512). -/
theorem squarePeriod_freq (s : State) (lo hi : Nat) :
    squarePeriod (s.freq lo hi) = (2048 - Spec.freqOf (s.peek hi) (s.peek lo)) * 4 := by
  rw [squarePeriod, State.freq_toNat]

/-- The period of the wave channel (R513). -/
theorem wavePeriod_freq (s : State) (lo hi : Nat) :
    wavePeriod (s.freq lo hi) = (2048 - Spec.freqOf (s.peek hi) (s.peek lo)) * 2 := by
  rw [wavePeriod, State.freq_toNat]

/-- The low bits of a byte. -/
theorem field_low (v : Byte) (n : Nat) : field v 0 n = v.toNat % 2 ^ n := by rw [field, Nat.pow_zero, Nat.div_one]

/-- The high four bits of a byte. -/
theorem field_high (v : Byte) : field v 4 4 = v.toNat / 16 :=
  Nat.mod_eq_of_lt (by have := v.isLt; omega)

/-- The period of the noise channel (R514). -/
theorem noisePeriod_eq (v : Byte) :
    noisePeriod v = [8, 16, 32, 48, 64, 80, 96, 112].getD (v.toNat % 8) 0 * 2 ^ (v.toNat / 16) := by
  have hdiv : divisorTable.getD (field v 0 3) 8 = [8, 16, 32, 48, 64, 80, 96, 112].getD (v.toNat % 8) 0 := by
    have hcode : field v 0 3 = v.toNat % 8 := field_low v 3
    have hlt := Nat.mod_lt v.toNat (show 0 < 8 by decide)
    rw [hcode]
    generalize v.toNat % 8 = k at hlt ⊢
    interval_cases k <;> rfl
  rw [noisePeriod, hdiv, field_high, Nat.shiftLeft_eq]

/-- The length units of a square or the noise channel (R504). -/
theorem lengthUnits_eq (v : Byte) : lengthUnits v = 64 - v.toNat % 64 := by
  rw [lengthUnits, field_low]
  rfl

/-- The envelope that a trigger latches (R505). -/
theorem Envelope.latch_eq (v : Byte) : Envelope.latch v = Spec.latched v := by
  have hvol : v.extractLsb' 4 4 = BitVec.ofNat 4 (v.toNat / 16) := by
    apply BitVec.eq_of_toNat_eq
    simp [BitVec.extractLsb'_toNat, Nat.shiftRight_eq_div_pow]
  have hper : v.extractLsb' 0 3 = BitVec.ofNat 3 (v.toNat % 8) := by
    apply BitVec.eq_of_toNat_eq
    simp [BitVec.extractLsb'_toNat]
  have hfield : field v 0 3 = v.toNat % 8 := field_low v 3
  rw [Envelope.latch, Spec.latched, hvol, hper, hfield]
  rfl

/-! ## The triggers -/

section Trigger
variable (s : State)

/-- A trigger of channel 1 in the spec's terms (R504, R505, R506). -/
theorem State.trigger1_eq :
    let f := Spec.freqOf (s.peek 0xFF14) (s.peek 0xFF13)
    s.trigger1 = { s with apu := { s.apu with
      ch1 := { voice := Spec.triggered ((2048 - f) * 4) (64 - (s.peek 0xFF11).toNat % 64) (s.peek 0xFF14), pos := 0,
               env := Spec.latched (s.peek 0xFF12) },
      sweep := { shadow := BitVec.ofNat 11 f, left := (s.peek 0xFF10).toNat / 16 % 8 * 32768 } } } := by
  rw [State.trigger1, State.period1, squarePeriod_freq, lengthUnits_eq, Envelope.latch_eq, State.freq_eq_ofNat]
  rfl

/-- A trigger of channel 2 in the spec's terms (R504, R505). -/
theorem State.trigger2_eq :
    s.trigger2 = { s with apu := { s.apu with
      ch2 := { voice := Spec.triggered ((2048 - Spec.freqOf (s.peek 0xFF19) (s.peek 0xFF18)) * 4)
                 (64 - (s.peek 0xFF16).toNat % 64) (s.peek 0xFF19), pos := 0,
               env := Spec.latched (s.peek 0xFF17) } } } := by
  rw [State.trigger2, State.period2, squarePeriod_freq, lengthUnits_eq, Envelope.latch_eq]
  rfl

/-- A trigger of channel 3 in the spec's terms (R504, R507). -/
theorem State.trigger3_eq :
    s.trigger3 = { s with apu := { s.apu with
      ch3 := { voice := Spec.triggered ((2048 - Spec.freqOf (s.peek 0xFF1E) (s.peek 0xFF1D)) * 2)
                 (256 - (s.peek 0xFF1B).toNat) (s.peek 0xFF1E), pos := 0 } } } := by
  rw [State.trigger3, State.period3, wavePeriod_freq]
  rfl

/-- A trigger of channel 4 in the spec's terms (R504, R505, R507). -/
theorem State.trigger4_eq :
    let nr43 := (s.peek 0xFF22).toNat
    s.trigger4 = { s with apu := { s.apu with
      ch4 := { voice := Spec.triggered ([8, 16, 32, 48, 64, 80, 96, 112].getD (nr43 % 8) 0 * 2 ^ (nr43 / 16))
                 (64 - (s.peek 0xFF20).toNat % 64) (s.peek 0xFF23),
               env := Spec.latched (s.peek 0xFF21), lfsr := 0x7FFF } } } := by
  rw [State.trigger4, State.period4, noisePeriod_eq, lengthUnits_eq, Envelope.latch_eq]
  rfl

end Trigger

/-- Settles O49: the byte is stored, and with bit 7 set the trigger reads the registers with it in place. -/
theorem channelTriggers : Obligations.ChannelTriggers := by
  intro s v ⟨hwf, _⟩
  have hw1 : s.memWrite 0xFF14 v = if bitOf v 7 then (s.poke 0xFF14 v).trigger1 else s.poke 0xFF14 v := rfl
  have hw2 : s.memWrite 0xFF19 v = if bitOf v 7 then (s.poke 0xFF19 v).trigger2 else s.poke 0xFF19 v := rfl
  have hw3 : s.memWrite 0xFF1E v = if bitOf v 7 then (s.poke 0xFF1E v).trigger3 else s.poke 0xFF1E v := rfl
  have hw4 : s.memWrite 0xFF23 v = if bitOf v 7 then (s.poke 0xFF23 v).trigger4 else s.poke 0xFF23 v := rfl
  refine ⟨fun h => ?_, fun h => ?_⟩
  · rw [bitOf, h] at hw1 hw2 hw3 hw4
    exact ⟨hw1, hw2, hw3, hw4⟩
  · rw [bitOf, h] at hw1 hw2 hw3 hw4
    have hsame : ∀ a, (s.poke a v).peek a = v := fun a => s.peek_poke_same a v hwf
    have hother : ∀ {a b}, b ≠ a → (s.poke a v).peek b = s.peek b := fun hab => s.peek_poke_ne v hwf hab
    refine ⟨hw1.trans ?_, hw2.trans ?_, hw3.trans ?_, hw4.trans ?_⟩
    · simp (disch := decide) only [if_pos, State.trigger1_eq, hsame, hother, State.poke_apu]
    · simp (disch := decide) only [if_pos, State.trigger2_eq, hsame, hother, State.poke_apu]
    · simp (disch := decide) only [if_pos, State.trigger3_eq, hsame, hother, State.poke_apu]
    · simp (disch := decide) only [if_pos, State.trigger4_eq, hsame, hother, State.poke_apu]

/-! ## The shift register -/

/-- The feedback bit of the shift register: the exclusive or of bits 0 and 1 (R518). -/
def feedback (l : BitVec 15) : BitVec 15 := (l ^^^ (l >>> 1)) &&& 1

/-- The feedback bit as a number. -/
theorem toNat_feedback (l : BitVec 15) : (feedback l).toNat = (l.toNat + l.toNat / 2) % 2 := by
  rw [feedback, BitVec.toNat_and, BitVec.toNat_xor, BitVec.toNat_ushiftRight, Nat.shiftRight_eq_div_pow]
  exact (Nat.and_one_is_mod _).trans Nat.xor_mod_two_eq

/-- A bit shifted to place `k` of the register. -/
theorem toNat_bit_shiftLeft {x : BitVec 15} (hx : x.toNat < 2) {k : Nat} (hk : k < 15) :
    (x <<< k).toNat = 2 ^ k * x.toNat := by
  rw [BitVec.toNat_shiftLeft, Nat.shiftLeft_eq, Nat.mul_comm]
  refine Nat.mod_eq_of_lt ?_
  calc 2 ^ k * x.toNat ≤ 2 ^ k * 1 := Nat.mul_le_mul_left _ (by omega)
    _ < 2 ^ 15 := by rw [Nat.mul_one]; exact Nat.pow_lt_pow_right (by decide) hk

/-- Bit 6 of the register replaced (R518, the narrow mode). -/
theorem toNat_replace_bit_six (w : BitVec 15) {x : BitVec 15} (hx : x.toNat < 2) :
    ((w &&& ~~~(0x0040 : BitVec 15)) ||| (x <<< 6)).toNat =
      2 ^ 6 * (2 * (w.toNat / 64 / 2) + x.toNat) + w.toNat % 2 ^ 6 := by
  have hmask : ∀ i, (0x0040 : BitVec 15).getLsbD i = decide (6 = i) := fun i => BitVec.getLsbD_twoPow 6 i
  have hbit : ∀ i, ((w &&& ~~~(0x0040 : BitVec 15)) ||| (x <<< 6)).toNat.testBit i =
      ((w.toNat.testBit i && !decide (6 = i)) || (decide (6 ≤ i) && x.toNat.testBit (i - 6))) := fun i => by
    have hwidth : (w.getLsbD i && decide (i < 15)) = w.getLsbD i := by
      rw [Bool.and_eq_left_iff_imp, decide_eq_true_eq]
      exact BitVec.lt_of_getLsbD
    rw [BitVec.toNat_or, Nat.testBit_or, toNat_bit_shiftLeft hx (by decide), Nat.testBit_two_pow_mul,
      BitVec.testBit_toNat, BitVec.getLsbD_and, BitVec.getLsbD_not, hmask, ← Bool.and_assoc, hwidth,
      BitVec.testBit_toNat w]
  apply Nat.eq_of_testBit_eq
  intro i
  rw [Nat.testBit_two_pow_mul_add _ (Nat.mod_lt _ (by decide)), Nat.testBit_mod_two_pow, hbit]
  rcases Nat.lt_trichotomy i 6 with hi | rfl | hi
  · simp [hi, Nat.not_le_of_lt hi, show 6 ≠ i by omega]
  · simp [Nat.testBit_zero]
  · obtain ⟨j, rfl⟩ := Nat.exists_eq_add_of_lt hi
    have hhalf : (2 * (w.toNat / 64 / 2) + x.toNat) / 2 = w.toNat / 2 ^ 7 := by
      rw [Nat.div_div_eq_div_mul]
      omega
    have hsub : 6 + j + 1 - 6 = j + 1 := by omega
    rw [if_neg (by omega), hsub, Nat.testBit_add_one x.toNat, Nat.testBit_add_one (_ + _), hhalf,
      Nat.testBit_div_two_pow, Nat.div_eq_of_lt hx, show 6 + j + 1 = j + 7 by omega]
    simp

/-- Settles O52: a sum of bits is their exclusive or, and bits in different places add up. -/
theorem noiseShiftRegister : Obligations.NoiseShiftRegister := by
  intro l
  have hx := toNat_feedback l
  have hx2 : (feedback l).toNat < 2 := by omega
  have hwide : (lfsrStep false l).toNat = l.toNat / 2 + (l.toNat + l.toNat / 2) % 2 * 16384 := by
    have hl := l.isLt
    show ((l >>> 1) ||| (feedback l <<< 14)).toNat = _
    rw [BitVec.toNat_or, toNat_bit_shiftLeft hx2 (by decide), hx, BitVec.toNat_ushiftRight, Nat.shiftRight_eq_div_pow,
      Nat.or_comm, ← Nat.two_pow_add_eq_or_of_lt (by omega)]
    omega
  have hnarrow : lfsrStep true l = (lfsrStep false l &&& ~~~(0x0040 : BitVec 15)) ||| (feedback l <<< 6) := rfl
  refine ⟨hwide, ?_, fun hl hzero => hl ?_⟩
  · rw [hnarrow, toNat_replace_bit_six _ hx2, hx, hwide]
    omega
  · rw [hzero] at hwide
    have hsum : 0 = l.toNat / 2 + (l.toNat + l.toNat / 2) % 2 * 16384 := hwide
    have hhalf : l.toNat / 2 = 0 := by omega
    rw [hhalf] at hsum
    have hnone : l.toNat = 0 := by omega
    exact BitVec.eq_of_toNat_eq hnone

/-! ## The levels and the mixer -/

/-- A bit of a byte, as a number's binary digit. -/
theorem bitOf_eq_decide (v : Byte) (i : Nat) : bitOf v i = decide (v.toNat / 2 ^ i % 2 = 1) :=
  (BitVec.testBit_toNat v).symm.trans Nat.testBit_eq_decide_div_mod_eq

/-- The level of a square channel (R522, R532). -/
theorem Square.level_eq (nrk1 : Byte) (c : Square) : c.level nrk1 = Spec.squareLevel nrk1 c := by
  have hduty : field nrk1 6 2 = nrk1.toNat / 64 := Nat.mod_eq_of_lt (by have := nrk1.isLt; omega)
  have hpattern : (dutyTable.getD (nrk1.toNat / 64) 0).toNat =
      [0b00000001, 0b10000001, 0b10000111, 0b01111110].getD (nrk1.toNat / 64) 0 := by
    have hlt : nrk1.toNat / 64 < 4 := by have := nrk1.isLt; omega
    generalize nrk1.toNat / 64 = k at hlt ⊢
    interval_cases k <;> rfl
  refine if_congr ?_ rfl rfl
  rw [Bool.and_eq_true, bitOf_eq_decide, decide_eq_true_eq, hduty, hpattern]

/-- Half a byte of the wave table (R58, R530). -/
theorem State.waveSample_eq (s : State) (p : Nat) : s.waveSample p =
    if p % 2 = 0 then (s.peek (0xFF30 + p / 2)).toNat / 16 else (s.peek (0xFF30 + p / 2)).toNat % 16 := by
  simp only [State.waveSample, field_high, field_low, Nat.reducePow]

/-- The level of the wave channel (R530, R532). -/
theorem State.waveLevel_eq (s : State) : s.waveLevel = Spec.waveLevelOf s := by
  have hcode : field (s.peek 0xFF1C) 5 2 = (s.peek 0xFF1C).toNat / 32 % 4 := rfl
  have hlt : (s.peek 0xFF1C).toNat / 32 % 4 < 4 := Nat.mod_lt _ (by decide)
  unfold State.waveLevel Spec.waveLevelOf
  refine if_congr ?_ ?_ rfl
  · rw [Bool.and_eq_true, bitAt_eq_one]
  · rw [State.waveSample_eq, hcode]
    generalize (s.peek 0xFF1C).toNat / 32 % 4 = k at hlt ⊢
    interval_cases k <;> simp [Nat.shiftRight_eq_div_pow]

/-- The level of the noise channel (R531, R532). -/
theorem Noise.level_eq (c : Noise) : c.level = Spec.noiseLevel c := by
  refine if_congr ?_ rfl rfl
  rw [Bool.and_eq_true, ← BitVec.testBit_toNat, Nat.testBit_zero]
  simp

theorem State.levels_eq (s : State) : s.levels = Spec.levels s := by
  rw [State.levels, Square.level_eq, Square.level_eq, State.waveLevel_eq, Noise.level_eq]
  rfl

theorem squareLevel_le (nrk1 : Byte) (c : Square) : Spec.squareLevel nrk1 c ≤ 15 := by
  have hvol := c.env.volume.isLt
  unfold Spec.squareLevel
  dsimp only
  split <;> omega

theorem noiseLevel_le (c : Noise) : Spec.noiseLevel c ≤ 15 := by
  have hvol := c.env.volume.isLt
  unfold Spec.noiseLevel
  split <;> omega

theorem waveLevelOf_le (s : State) : Spec.waveLevelOf s ≤ 15 := by
  have hlt : (s.peek 0xFF1C).toNat / 32 % 4 < 4 := Nat.mod_lt _ (by decide)
  have hbyte := (s.peek (0xFF30 + s.apu.ch3.pos.val / 2)).isLt
  unfold Spec.waveLevelOf
  dsimp only
  generalize (s.peek 0xFF1C).toNat / 32 % 4 = k at hlt ⊢
  generalize (s.peek (0xFF30 + s.apu.ch3.pos.val / 2)).toNat = v at hbyte ⊢
  have hhalf : (if s.apu.ch3.pos.val % 2 = 0 then v / 16 else v % 16) ≤ 15 := by split <;> omega
  split
  · interval_cases k <;> simp only [List.getD_cons_zero, List.getD_cons_succ] <;> omega
  · exact Nat.zero_le _

/-- The sum of the routed levels, written out (R538). -/
theorem routed_eq (s : State) (lo : Nat) : Spec.routed s lo =
    Spec.bitAt s 0xFF25 lo * Spec.squareLevel (s.peek 0xFF11) s.apu.ch1 +
      (Spec.bitAt s 0xFF25 (lo + 1) * Spec.squareLevel (s.peek 0xFF16) s.apu.ch2 +
        (Spec.bitAt s 0xFF25 (lo + 2) * Spec.waveLevelOf s +
          Spec.bitAt s 0xFF25 (lo + 3) * Spec.noiseLevel s.apu.ch4)) := by
  simp [Spec.routed, Spec.levels, List.range_succ]

/-- The model's routed sum is the spec's (R538). -/
theorem State.routedSum_eq (s : State) (lo : Nat) : routedSum (s.peek 0xFF25) lo s.levels = Spec.routed s lo := by
  have hroute : ∀ k l, (if bitOf (s.peek 0xFF25) k then l else 0) = Spec.bitAt s 0xFF25 k * l := fun k l => by
    unfold Spec.bitAt bitOf
    cases (s.peek 0xFF25).getLsbD k <;> simp
  rw [State.levels_eq, routed_eq]
  simp only [Spec.levels, routedSum, hroute, Nat.add_zero, Nat.add_assoc, Nat.reduceAdd]

/-- The routed sum of four levels is at most 60 (R538). -/
theorem routed_le (s : State) (lo : Nat) : Spec.routed s lo ≤ 60 := by
  have hbit : ∀ k l, l ≤ 15 → Spec.bitAt s 0xFF25 k * l ≤ 15 := fun k l hl =>
    (Nat.mul_le_mul (Bool.toNat_le _) hl).trans (by decide)
  have h1 := hbit lo _ (squareLevel_le (s.peek 0xFF11) s.apu.ch1)
  have h2 := hbit (lo + 1) _ (squareLevel_le (s.peek 0xFF16) s.apu.ch2)
  have h3 := hbit (lo + 2) _ (waveLevelOf_le s)
  have h4 := hbit (lo + 3) _ (noiseLevel_le s.apu.ch4)
  rw [routed_eq]
  omega

/-- Settles O53: the routed sum is the spec's and at most 60, and a master volume at most 7. -/
theorem mixerSumsRoutedLevels : Obligations.MixerSumsRoutedLevels := by
  intro s
  have hvol : ∀ lo, field (s.peek 0xFF24) lo 3 + 1 ≤ 8 := fun lo =>
    Nat.succ_le_of_lt (Nat.mod_lt _ (by decide))
  have hleft : s.mix.1 = Spec.routed s 4 * (field (s.peek 0xFF24) 4 3 + 1) :=
    congrArg (· * _) (s.routedSum_eq 4)
  have hright : s.mix.2 = Spec.routed s 0 * (field (s.peek 0xFF24) 0 3 + 1) :=
    congrArg (· * _) (s.routedSum_eq 0)
  refine ⟨hleft, ?_, ?_, ?_⟩
  · rw [hright, field_low]
    rfl
  · rw [hleft]; exact Nat.mul_le_mul (routed_le s 4) (hvol 4)
  · rw [hright]; exact Nat.mul_le_mul (routed_le s 0) (hvol 0)

/-! ## The voice of a channel over its ticks -/

/-- The timer and the length are counted apart: the length part is that of the voice before the tick. -/
theorem Voice.countLength_countTimer (v : Voice) (period : Nat) :
    (v.countTimer period).countLength = { v.countLength with timer := (v.countTimer period).timer } := by
  obtain ⟨active, bounded, lenLeft, timer⟩ := v
  cases bounded <;> rfl

/-- Both branches of a square channel's tick count its timer and its length (R510). -/
@[simp] theorem Square.tick_voice (c : Square) (period : Nat) :
    (c.tick period).voice = (c.voice.countTimer period).countLength := by
  unfold Square.tick
  dsimp only
  split <;> rfl

/-- A sweep step leaves channel 1 as it was, or silent (R517). -/
theorem State.sweepTick_ch1 (s : State) :
    s.sweepTick.apu.ch1 = s.apu.ch1 ∨ s.sweepTick.apu.ch1.voice.active = false := by
  unfold State.sweepTick
  split
  · exact .inl rfl
  split
  · dsimp only
    split
    · exact .inl rfl
    split
    · exact .inr rfl
    · exact .inl rfl
  · exact .inl rfl

/-- With its countdown at 0 the sweep does nothing. -/
theorem State.sweepTick_of_zero {s : State} (h : s.apu.sweep.left = 0) : s.sweepTick = s := if_pos h

section Repeat
variable {f : State → State} {voice : State → Voice}
  (hoff : ∀ s, (voice s).active = false → (voice (f s)).active = false)
include hoff

/-- A silent channel stays silent. -/
theorem inactive_repeatN {s : State} (m : Nat) (h : (voice s).active = false) :
    (voice (repeatN f m s)).active = false :=
  repeatN_induct (fun t => (voice t).active = false) f hoff m s h

/-- A channel whose ticks count its length sounds for exactly that long, or on when it is unbounded (R515). -/
theorem active_repeatN {P : State → Prop} (hP : ∀ s, P s → P (f s))
    (hon : ∀ s, P s → (voice s).active = true → ∃ n, voice (f s) = { (voice s).countLength with timer := n }) (m : Nat)
    {s : State} (hs : P s) (ha : (voice s).active = true) (hlen : 0 < (voice s).lenLeft) :
    (voice (repeatN f m s)).active = (!(voice s).bounded || decide (m < (voice s).lenLeft)) := by
  induction m generalizing s with
  | zero => simp [repeatN, ha, hlen]
  | succ m ih =>
    obtain ⟨n, hn⟩ := hon s hs ha
    have hnext := @ih (f s) (hP s hs)
    rw [repeatN]
    cases hb : (voice s).bounded with
    | false =>
      rw [hn, Voice.countLength, hb] at hnext
      simpa [hb] using hnext ha hlen
    | true =>
      rw [Voice.countLength, if_pos hb] at hn
      by_cases h1 : (voice s).lenLeft = 1
      · have hsilent : (voice (f s)).active = false := by rw [hn, h1]; rfl
        rw [inactive_repeatN hoff m hsilent, h1]
        simp
      · rw [hn] at hnext
        rw [hnext (decide_eq_true (by omega)) (by dsimp only; omega), hb]
        exact congrArg (!true || ·) (decide_eq_decide.mpr (by dsimp only; omega))

/-- A bounded channel whose ticks count its length, or end it before, has ended when the length has passed (R515). -/
theorem ended_repeatN (hon : ∀ s, (voice s).active = true → (voice (f s)).active = true →
      ∃ n, voice (f s) = { (voice s).countLength with timer := n }) (m : Nat) {s : State}
    (hb : (voice s).bounded = true) (hlen : 0 < (voice s).lenLeft) (hm : (voice s).lenLeft ≤ m) :
    (voice (repeatN f m s)).active = false := by
  induction m generalizing s with
  | zero => omega
  | succ m ih =>
    rw [repeatN]
    cases ha : (voice s).active with
    | false => exact inactive_repeatN hoff m (hoff s ha)
    | true =>
      cases ha' : (voice (f s)).active with
      | false => exact inactive_repeatN hoff m ha'
      | true =>
        obtain ⟨n, hn⟩ := hon s ha ha'
        rw [Voice.countLength, if_pos hb] at hn
        rw [hn] at ha'
        have hleft : (voice s).lenLeft - 1 ≠ 0 := of_decide_eq_true ha'
        exact ih (by rw [hn]; exact hb) (by rw [hn]; dsimp only; omega) (by rw [hn]; dsimp only; omega)

end Repeat

/-! ## One tick of an active channel, and of a silent one -/

section Tick
variable {s : State}

theorem State.apuTick1_of_off (h : s.apu.ch1.voice.active = false) : s.apuTick1 = s := if_neg (by rw [h]; nofun)
theorem State.apuTick2_of_off (h : s.apu.ch2.voice.active = false) : s.apuTick2 = s := if_neg (by rw [h]; nofun)
theorem State.apuTick3_of_off (h : s.apu.ch3.voice.active = false) : s.apuTick3 = s := if_neg (by rw [h]; nofun)
theorem State.apuTick4_of_off (h : s.apu.ch4.voice.active = false) : s.apuTick4 = s := if_neg (by rw [h]; nofun)

/-- Channel 1 ticks as a square channel, and its sweep after it when it still sounds (R510). -/
theorem State.apuTick1_of_on (h : s.apu.ch1.voice.active = true) : s.apuTick1 =
    if (s.apu.ch1.tick s.period1).voice.active then
      State.sweepTick { s with apu := { s.apu with ch1 := s.apu.ch1.tick s.period1 } }
    else { s with apu := { s.apu with ch1 := s.apu.ch1.tick s.period1 } } := if_pos h

/-- Without a sweep channel 1 ticks as a square channel alone. -/
theorem State.apuTick1_of_no_sweep (h : s.apu.ch1.voice.active = true) (hsweep : s.apu.sweep.left = 0) :
    s.apuTick1 = { s with apu := { s.apu with ch1 := s.apu.ch1.tick s.period1 } } := by
  rw [State.apuTick1_of_on h]
  split
  · exact State.sweepTick_of_zero hsweep
  · rfl

/-- A tick of channel 2 as a square channel (R510, R512). -/
theorem State.apuTick2_of_on (h : s.apu.ch2.voice.active = true) :
    s.apuTick2 = { s with apu := { s.apu with ch2 := s.apu.ch2.tick s.period2 } } := if_pos h

/-- A tick of channel 3 as a wave channel (R510, R513). -/
theorem State.apuTick3_of_on (h : s.apu.ch3.voice.active = true) : s.apuTick3 =
    { s with apu := { s.apu with
      ch3 := { voice := (s.apu.ch3.voice.countTimer s.period3).countLength,
               pos := if s.apu.ch3.voice.expires then s.apu.ch3.pos + 1 else s.apu.ch3.pos } } } := if_pos h

/-- A tick of channel 4 as the noise channel (R510, R514, R518). -/
theorem State.apuTick4_of_on (h : s.apu.ch4.voice.active = true) :
    let c := s.apu.ch4
    let voice := (c.voice.countTimer s.period4).countLength
    s.apuTick4 = { s with apu := { s.apu with
      ch4 := { voice := voice, env := if voice.active then c.env.tick else c.env,
               lfsr := if c.voice.expires then lfsrStep (bitOf (s.peek 0xFF22) 3) c.lfsr else c.lfsr } } } := if_pos h

/-- Channel 1 ticks as a square channel, unless the sweep silences it (R510, R517). -/
theorem State.apuTick1_ch1 (h : s.apu.ch1.voice.active = true) :
    s.apuTick1.apu.ch1 = s.apu.ch1.tick s.period1 ∨ s.apuTick1.apu.ch1.voice.active = false := by
  rw [State.apuTick1_of_on h]
  split
  · exact State.sweepTick_ch1 _
  · exact .inl rfl

end Tick

/-- Settles O50: every tick of a sounding channel counts its length, but for a sweep that silences channel 1. -/
theorem lengthEndsTheSound : Obligations.LengthEndsTheSound := by
  intro s m
  have hcount : ∀ (v : Voice) (p : Nat), ∃ n, (v.countTimer p).countLength = { v.countLength with timer := n } :=
    fun v p => ⟨_, v.countLength_countTimer p⟩
  have hoff1 : ∀ s : State, s.apu.ch1.voice.active = false → s.apuTick1.apu.ch1.voice.active = false :=
    fun s h => by rwa [State.apuTick1_of_off h]
  have hoff2 : ∀ s : State, s.apu.ch2.voice.active = false → s.apuTick2.apu.ch2.voice.active = false :=
    fun s h => by rwa [State.apuTick2_of_off h]
  have hoff3 : ∀ s : State, s.apu.ch3.voice.active = false → s.apuTick3.apu.ch3.voice.active = false :=
    fun s h => by rwa [State.apuTick3_of_off h]
  have hoff4 : ∀ s : State, s.apu.ch4.voice.active = false → s.apuTick4.apu.ch4.voice.active = false :=
    fun s h => by rwa [State.apuTick4_of_off h]
  have hsweep1 : ∀ s : State, s.apu.sweep.left = 0 → s.apuTick1.apu.sweep.left = 0 := fun s hs => by
    cases ha : s.apu.ch1.voice.active with
    | false => rwa [State.apuTick1_of_off ha]
    | true => rwa [State.apuTick1_of_no_sweep ha hs]
  have hstays : ∀ s : State, True → True := fun _ => id
  refine ⟨fun _ hb hlen hm => ?_, fun ha hlen hsweep => ?_, fun ha hlen => ?_, fun ha hlen => ?_, fun ha hlen => ?_⟩
  · refine ended_repeatN (voice := fun s => s.apu.ch1.voice) hoff1 (fun s ha ha' => ?_) m hb hlen hm
    obtain h | h := State.apuTick1_ch1 ha
    · rw [h, Square.tick_voice]
      exact hcount _ _
    · exact absurd ha' (by simp [h])
  · refine active_repeatN (voice := fun s => s.apu.ch1.voice) hoff1 hsweep1 (fun s hs ha => ?_) m hsweep ha hlen
    rw [State.apuTick1_of_no_sweep ha hs, Square.tick_voice]
    exact hcount _ _
  · refine active_repeatN (voice := fun s => s.apu.ch2.voice) hoff2 hstays (fun s _ ha => ?_) m trivial ha hlen
    rw [State.apuTick2_of_on ha, Square.tick_voice]
    exact hcount _ _
  · refine active_repeatN (voice := fun s => s.apu.ch3.voice) hoff3 hstays (fun s _ ha => ?_) m trivial ha hlen
    rw [State.apuTick3_of_on ha]
    exact hcount _ _
  · refine active_repeatN (voice := fun s => s.apu.ch4.voice) hoff4 hstays (fun s _ ha => ?_) m trivial ha hlen
    rw [State.apuTick4_of_on ha]
    exact hcount _ _

/-! ## A tick in the spec's terms -/

section Live
variable {v : Voice} (hlive : v.live) (ha : v.active = true)
include hlive ha

/-- While the timer has not run out, it expires on its last tick. -/
theorem Voice.live.expires_iff : v.expires = true ↔ v.timer = 1 := by
  have htimer := (hlive ha).1
  rw [Voice.expires, decide_eq_true_eq]
  omega

/-- While the counters have not run out, an active voice's tick is the spec's (R510 steps 1 and 2). -/
theorem Voice.live.tick_eq (period : Nat) : (v.countTimer period).countLength = Spec.voiceAfter period v := by
  have htimer : (v.countTimer period).timer = if v.timer = 1 then period else v.timer - 1 :=
    if_congr (hlive.expires_iff ha) rfl rfl
  rw [Voice.countLength_countTimer, htimer, Spec.voiceAfter, Spec.sounds, Voice.countLength]
  cases hb : v.bounded with
  | false => simp [ha, hb]
  | true =>
    have hlen := (hlive ha).2 hb
    have hend : v.lenLeft - 1 = 0 ↔ v.lenLeft = 1 := by omega
    simp [hend]

/-- A waveform position moves by one, modulo the number of positions, when the timer expires (R510 step 1). -/
theorem Voice.live.pos_eq {n : Nat} [NeZero n] (pos : Fin n) :
    (if v.expires then pos + 1 else pos) = Spec.posAfter n v pos := by
  refine if_congr (hlive.expires_iff ha) (Fin.ext ?_) rfl
  simp [Fin.val_add]

/-- The voice still sounds after the tick, as the spec says. -/
theorem Voice.live.tick_active (period : Nat) : (v.countTimer period).countLength.active = Spec.sounds v := by
  rw [hlive.tick_eq ha]
  rfl

end Live

/-- One tick of an active square channel in the spec's terms (R510, sweep apart). -/
theorem Square.tick_eq {c : Square} (hlive : c.voice.live) (ha : c.voice.active = true) (period : Nat) :
    c.tick period = { voice := Spec.voiceAfter period c.voice, pos := Spec.posAfter 8 c.voice c.pos,
                      env := Spec.envAfter c.voice c.env } := by
  have hactive := hlive.tick_active ha period
  rw [Square.tick, hlive.pos_eq ha, Spec.envAfter]
  rw [hactive, hlive.tick_eq ha]
  split <;> rfl

/-- The envelope step over the naturals (R516). -/
theorem Envelope.stepVolume_eq (e : Envelope) : e.stepVolume =
    BitVec.ofNat 4 (if e.up then min (e.volume.toNat + 1) 15 else e.volume.toNat - 1) := by
  have hup : ∀ v : BitVec 4, (if v = 15 then 15 else v + 1) = BitVec.ofNat 4 (min (v.toNat + 1) 15) := by decide
  have hdown : ∀ v : BitVec 4, (if v = 0 then 0 else v - 1) = BitVec.ofNat 4 (v.toNat - 1) := by decide
  rw [Envelope.stepVolume, hup, hdown, ← apply_ite]

/-- An envelope with period 0 does not move (R516). -/
theorem Envelope.tick_of_zero {e : Envelope} (h : e.period = 0) : e.tick = e := if_pos h

/-- A running envelope counts down, and at the end of its countdown steps the volume and reloads (R516). -/
theorem Envelope.tick_of_ne {e : Envelope} (h : e.period ≠ 0) : e.tick =
    if e.left - 1 = 0 then { e with volume := e.stepVolume, left := e.period.toNat * 65536 }
    else { e with left := e.left - 1 } := if_neg h

/-- The candidate frequency over the naturals (R517). -/
theorem sweepCandidate_eq (nr10 : Byte) (shadow : BitVec 11) : sweepCandidate nr10 shadow =
    if nr10.toNat / 8 % 2 = 1 then shadow.toNat - shadow.toNat / 2 ^ (nr10.toNat % 8)
    else shadow.toNat + shadow.toNat / 2 ^ (nr10.toNat % 8) := by
  have hshift : field nr10 0 3 = nr10.toNat % 8 := field_low nr10 3
  rw [sweepCandidate, bitOf_eq_decide, hshift, Nat.shiftRight_eq_div_pow]
  exact if_congr decide_eq_true_iff rfl rfl

/-- A frequency of at most 2047 written back to NR13 and NR14 (R517). -/
theorem State.applySweep_eq (s : State) {cand : Nat} (h : cand ≤ 2047) : s.applySweep cand =
    { (s.poke 0xFF13 (BitVec.ofNat 8 cand)).poke 0xFF14 ((s.peek 0xFF14 &&& 0xF8) ||| BitVec.ofNat 8 (cand / 256)) with
      apu := { s.apu with sweep := { s.apu.sweep with shadow := BitVec.ofNat 11 cand } } } := by
  have hlow : (BitVec.ofNat 11 cand).extractLsb' 0 8 = BitVec.ofNat 8 cand := by
    apply BitVec.eq_of_toNat_eq
    rw [BitVec.extractLsb'_toNat, BitVec.toNat_ofNat, BitVec.toNat_ofNat]
    omega
  have hhigh : ((BitVec.ofNat 11 cand).extractLsb' 8 3).zeroExtend 8 = BitVec.ofNat 8 (cand / 256) := by
    apply BitVec.eq_of_toNat_eq
    rw [BitVec.zeroExtend, BitVec.toNat_setWidth, BitVec.extractLsb'_toNat, BitVec.toNat_ofNat, BitVec.toNat_ofNat]
    omega
  rw [State.applySweep, hlow, hhigh]
  rfl

/-- The sweep counts down (R517). -/
theorem State.sweepTick_of_gt {s : State} (h : 1 < s.apu.sweep.left) :
    s.sweepTick = s.setSweepLeft (s.apu.sweep.left - 1) := by
  rw [State.sweepTick, if_neg (by omega), if_neg (by omega)]

/-- At the end of its countdown the sweep reloads, silences channel 1, or takes the candidate frequency (R517). -/
theorem State.sweepTick_of_one {s : State} (h : s.apu.sweep.left = 1) : s.sweepTick =
    if (s.peek 0xFF10).toNat % 8 = 0 then s.setSweepLeft ((s.peek 0xFF10).toNat / 16 % 8 * 32768)
    else if 2047 < sweepCandidate (s.peek 0xFF10) s.apu.sweep.shadow then (s.setSweepLeft 0).silence1
    else (s.applySweep (sweepCandidate (s.peek 0xFF10) s.apu.sweep.shadow)).setSweepLeft
      ((s.peek 0xFF10).toNat / 16 % 8 * 32768) := by
  have hshift : field (s.peek 0xFF10) 0 3 = (s.peek 0xFF10).toNat % 8 := field_low _ 3
  rw [State.sweepTick, if_neg (by omega), if_pos (by omega)]
  dsimp only
  rw [hshift]
  rfl

/-- Settles O51: each tick is its channel's, over live counters; the envelope and the sweep by their countdowns. -/
theorem envelopeAndSweepSteps : Obligations.EnvelopeAndSweepSteps := by
  refine ⟨fun s => ?_, fun e => ⟨Envelope.tick_of_zero, fun hper hleft => ?_, fun hper hleft => ?_⟩, fun s => ?_⟩
  · intro v1 v2 v3 v4 f1 f2 f3 nr43 period4
    refine ⟨State.apuTick1_of_off, State.apuTick2_of_off, State.apuTick3_of_off, State.apuTick4_of_off,
      fun ha hlive => ?_, fun ha hlive => ?_, fun ha hlive => ?_, fun ha hlive => ?_⟩
    · rw [State.apuTick1_of_on ha, Square.tick_eq hlive ha, State.period1, squarePeriod_freq]
      rfl
    · rw [State.apuTick2_of_on ha, Square.tick_eq hlive ha, State.period2, squarePeriod_freq]
    · rw [State.apuTick3_of_on ha, hlive.tick_eq ha, hlive.pos_eq ha, State.period3, wavePeriod_freq]
    · rw [State.apuTick4_of_on ha, hlive.tick_eq ha, if_congr (hlive.expires_iff ha) rfl rfl, State.period4,
        noisePeriod_eq]
      rfl
  · rw [Envelope.tick_of_ne hper, if_neg (by omega)]
  · rw [Envelope.tick_of_ne hper, if_pos (by omega), Envelope.stepVolume_eq]
  · intro nr10 sh shadow cand reload
    have hcand : sweepCandidate (s.peek 0xFF10) s.apu.sweep.shadow = cand := sweepCandidate_eq _ _
    refine ⟨State.sweepTick_of_zero, State.sweepTick_of_gt, fun h hsh => ?_, fun h hsh hhigh => ?_,
      fun h hsh hlow => ?_⟩
    · rw [State.sweepTick_of_one h, if_pos hsh]
      rfl
    · rw [State.sweepTick_of_one h, if_neg hsh, hcand, if_pos hhigh]
      rfl
    · rw [State.sweepTick_of_one h, if_neg hsh, hcand, if_neg (Nat.not_lt.mpr hlow), State.applySweep_eq s hlow]
      rfl

/-! ## What a render writes -/

/-- The memory `m'` in canonical form differs from `m` in NR13 and NR14 only. -/
def SweepWrites (m m' : Memory) : Prop :=
  Memory.wf .bus m' = true ∧ ∀ b, b ≠ 0xFF13 → b ≠ 0xFF14 → Memory.read .bus m' b = Memory.read .bus m b

/-- A store to NR13 or NR14 is one of those. -/
theorem SweepWrites.write {m m' : Memory} (h : SweepWrites m m') {a : Nat} (v : Byte) (ha : a = 0xFF13 ∨ a = 0xFF14) :
    SweepWrites m (Memory.write .bus m' a v) := by
  obtain ⟨hwf, hread⟩ := h
  exact ⟨Memory.wf_write v hwf (Store.bus_holds (by omega)), fun b h3 h4 =>
    (Memory.read_write_ne v hwf (by omega)).trans (hread b h3 h4)⟩

/-- A sweep step writes NR13 and NR14 of memory, or nothing (R517). -/
theorem State.sweepTick_mem_induct (P : Memory → Prop)
    (hP : ∀ m a v, a = 0xFF13 ∨ a = 0xFF14 → P m → P (Memory.write .bus m a v)) (s : State) (h : P s.mem) :
    P s.sweepTick.mem := by
  unfold State.sweepTick
  split
  · exact h
  split
  · dsimp only
    split
    · exact h
    split
    · exact h
    · exact hP _ _ _ (.inr rfl) (hP _ _ _ (.inl rfl) h)
  · exact h

/-- A tick of channel 1 writes NR13 and NR14 of memory, or nothing. -/
theorem State.apuTick1_mem_induct (P : Memory → Prop)
    (hP : ∀ m a v, a = 0xFF13 ∨ a = 0xFF14 → P m → P (Memory.write .bus m a v)) (s : State) (h : P s.mem) :
    P s.apuTick1.mem := by
  cases ha : s.apu.ch1.voice.active with
  | false => rwa [State.apuTick1_of_off ha]
  | true =>
    rw [State.apuTick1_of_on ha]
    split
    · exact State.sweepTick_mem_induct P hP _ h
    · exact h

/-- The memory after the advance of a sample is that after the ticks of channel 1 (R541). -/
theorem State.apuAdvance_mem (s : State) (d : Nat) : (s.apuAdvance d).mem = (repeatN State.apuTick1 d s).mem := by
  rw [State.apuAdvance]
  obtain ⟨c2, h2⟩ := (repeatN State.apuTick1 d s).apuTicks2_eq d
  obtain ⟨c3, h3⟩ := (repeatN State.apuTick2 d (repeatN State.apuTick1 d s)).apuTicks3_eq d
  obtain ⟨c4, h4⟩ := (repeatN State.apuTick3 d (repeatN State.apuTick2 d (repeatN State.apuTick1 d s))).apuTicks4_eq d
  rw [h4, h3, h2]

/-- The ticks of channel 1 change no byte but NR13 and NR14, and keep the canonical form. -/
theorem State.apuTicks1_peek (s : State) (d : Nat) (hwf : Memory.wf .bus s.mem = true) :
    Memory.wf .bus (repeatN State.apuTick1 d s).mem = true ∧
      ∀ b, b ≠ 0xFF13 → b ≠ 0xFF14 → (repeatN State.apuTick1 d s).peek b = s.peek b :=
  repeatN_induct (fun t : State => SweepWrites s.mem t.mem) _
    (State.apuTick1_mem_induct (SweepWrites s.mem) fun _ _ v ha hm => hm.write v ha) d s ⟨hwf, fun _ _ _ => rfl⟩

theorem State.apuAdvance_mem_wf (s : State) (d : Nat) (hwf : Memory.wf .bus s.mem = true) :
    Memory.wf .bus (s.apuAdvance d).mem = true := by
  rw [State.apuAdvance_mem]
  exact (s.apuTicks1_peek d hwf).1

/-- A render takes one sample after the advance of its ticks, counts it, and goes on (R541). -/
theorem renderSamples_succ (n : Nat) (s : State) : ∃ d, d = sampleTicks s.params.sampleRate s.apu.samplesDone ∧
    renderSamples (n + 1) s = ((renderSamples n (s.apuAdvance d).countSample).1,
      (s.apuAdvance d).mix :: (renderSamples n (s.apuAdvance d).countSample).2) := ⟨_, rfl, rfl⟩

@[simp] theorem State.countSample_mem (s : State) : s.countSample.mem = s.mem := rfl
@[simp] theorem State.countSample_params (s : State) : s.countSample.params = s.params := rfl

/-- The samples of a render write NR13 and NR14 of memory only. -/
theorem renderSamples_mem_induct (P : Memory → Prop)
    (hP : ∀ m a v, a = 0xFF13 ∨ a = 0xFF14 → P m → P (Memory.write .bus m a v)) (n : Nat) (s : State) (h : P s.mem) :
    P (renderSamples n s).1.mem := by
  induction n generalizing s with
  | zero => exact h
  | succ n ih =>
    obtain ⟨d, -, hd⟩ := renderSamples_succ n s
    rw [hd]
    refine ih _ ?_
    rw [State.countSample_mem, State.apuAdvance_mem]
    exact repeatN_induct (fun t : State => P t.mem) _ (State.apuTick1_mem_induct P hP) _ _ h

/-- A render changes no byte but NR13 and NR14, and keeps the canonical form. -/
theorem renderSamples_sweepWrites (n : Nat) (s : State) (hwf : Memory.wf .bus s.mem = true) :
    SweepWrites s.mem (renderSamples n s).1.mem :=
  renderSamples_mem_induct (SweepWrites s.mem) (fun _ _ v ha hm => hm.write v ha) n s ⟨hwf, fun _ _ _ => rfl⟩

/-- The samples of a render change memory, the channels and the sweep, and count themselves. -/
theorem renderSamples_eq (n : Nat) (s : State) : ∃ m c1 w c2 c3 c4, (renderSamples n s).1 =
    { s with mem := m, apu := { s.apu with
        ch1 := c1, sweep := w, ch2 := c2, ch3 := c3, ch4 := c4, samplesDone := s.apu.samplesDone + n } } := by
  induction n generalizing s with
  | zero => exact ⟨_, _, _, _, _, _, rfl⟩
  | succ n ih =>
    obtain ⟨d, -, hd⟩ := renderSamples_succ n s
    obtain ⟨m, c1, w, c2, c3, c4, h⟩ := ih (s.apuAdvance d).countSample
    obtain ⟨_, _, _, _, _, _, h'⟩ := s.apuAdvance_eq d
    refine ⟨m, c1, w, c2, c3, c4, ?_⟩
    rw [hd, h, State.countSample, h', Nat.add_comm n 1, ← Nat.add_assoc]

/-- A render returns as many samples as it is asked for. -/
theorem renderSamples_length (n : Nat) (s : State) : (renderSamples n s).2.length = n := by
  induction n generalizing s with
  | zero => rfl
  | succ n ih => exact congrArg (· + 1) (ih _)

/-- The advance of a sample leaves the sample count alone. -/
theorem State.apuAdvance_samplesDone (s : State) (d : Nat) : (s.apuAdvance d).apu.samplesDone = s.apu.samplesDone := by
  obtain ⟨m, c1, w, c2, c3, c4, h⟩ := s.apuAdvance_eq d
  rw [h]

theorem State.apuAdvance_params (s : State) (d : Nat) : (s.apuAdvance d).params = s.params := by
  obtain ⟨m, c1, w, c2, c3, c4, h⟩ := s.apuAdvance_eq d
  rw [h]

/-- The samples of a render are made by R541's loop. -/
theorem renderSamples_eq_loop (n : Nat) (s : State) : renderSamples n s = Spec.renderLoop n s := by
  induction n generalizing s with
  | zero => rfl
  | succ n ih =>
    obtain ⟨d, hd, hr⟩ := renderSamples_succ n s
    have hd : (s.apu.samplesDone + 1) * 4194304 / s.params.sampleRate -
        s.apu.samplesDone * 4194304 / s.params.sampleRate = d := hd.symm
    rw [hr, ih, State.countSample, State.apuAdvance_samplesDone, Spec.renderLoop]
    dsimp only
    rw [hd]
    rfl

/-! ## How far each channel advances -/

/-- Ticks before a sample never fall. -/
theorem ticksBefore_mono (rate : Nat) {i j : Nat} (h : i ≤ j) : Spec.ticksBefore rate i ≤ Spec.ticksBefore rate j :=
  Nat.div_le_div_right (Nat.mul_le_mul_right _ h)

/-- A sample's ticks are those between the counts before and after it (R541). -/
theorem sampleTicks_eq (rate j : Nat) :
    sampleTicks rate j = Spec.ticksBefore rate (j + 1) - Spec.ticksBefore rate j := rfl

/-- A relation of a state that `f` alone advances to a rendered state goes on along the samples of a render, `f` taking
as many ticks as they do. -/
theorem renderSamples_follows {f : State → State} {R : State → State → Prop}
    (hadvance : ∀ s t d, Memory.wf .bus t.mem = true → R s t → R (repeatN f d s) (t.apuAdvance d))
    (hcount : ∀ s t : State, R s t → R s t.countSample) (n : Nat) {s t : State} (hwf : Memory.wf .bus t.mem = true)
    (h : R s t) :
    R (repeatN f (Spec.ticksBefore t.params.sampleRate (t.apu.samplesDone + n) -
      Spec.ticksBefore t.params.sampleRate t.apu.samplesDone) s) (renderSamples n t).1 := by
  induction n generalizing s t with
  | zero => simpa [repeatN, renderSamples] using h
  | succ n ih =>
    obtain ⟨d, hd, hr⟩ := renderSamples_succ n t
    rw [sampleTicks_eq] at hd
    have hrest := @ih (repeatN f d s) (t.apuAdvance d).countSample (t.apuAdvance_mem_wf d hwf)
      (hcount _ _ (hadvance s t d hwf h))
    have hdone : (t.apuAdvance d).countSample.apu.samplesDone = t.apu.samplesDone + 1 :=
      congrArg (· + 1) (t.apuAdvance_samplesDone d)
    have hsum : d + (Spec.ticksBefore t.params.sampleRate (t.apu.samplesDone + 1 + n) -
        Spec.ticksBefore t.params.sampleRate (t.apu.samplesDone + 1)) =
        Spec.ticksBefore t.params.sampleRate (t.apu.samplesDone + (n + 1)) -
          Spec.ticksBefore t.params.sampleRate t.apu.samplesDone := by
      have h1 := ticksBefore_mono t.params.sampleRate (Nat.le_add_right t.apu.samplesDone 1)
      have h2 := ticksBefore_mono t.params.sampleRate (Nat.le_add_right (t.apu.samplesDone + 1) n)
      rw [show t.apu.samplesDone + (n + 1) = t.apu.samplesDone + 1 + n by omega]
      omega
    rw [← repeatN_add, hdone, State.countSample_params, State.apuAdvance_params, hsum] at hrest
    rw [hr]
    exact hrest

/-! ## Each channel reads and writes its own state -/

/-- The two states are equal in all that channel 1 reads and writes. -/
def State.SameCh1 (s t : State) : Prop := t.mem = s.mem ∧ t.apu.ch1 = s.apu.ch1 ∧ t.apu.sweep = s.apu.sweep

/-- Two states that take the same branch stay related. -/
theorem ite_rel {α : Type} {R : α → α → Prop} {c : Prop} [Decidable c] {a a' b b' : α} (ha : c → R a a')
    (hb : ¬ c → R b b') : R (if c then a else b) (if c then a' else b') := by
  by_cases hc : c
  · rw [if_pos hc, if_pos hc]
    exact ha hc
  · rw [if_neg hc, if_neg hc]
    exact hb hc

section SameCh1
variable {s t : State} (h : s.SameCh1 t)
include h

theorem State.SameCh1.peek (a : Nat) : t.peek a = s.peek a := by rw [State.peek, h.1, State.peek]

theorem State.SameCh1.setSweepLeft (n : Nat) : (s.setSweepLeft n).SameCh1 (t.setSweepLeft n) :=
  ⟨h.1, h.2.1, congrArg (fun w : Sweep => { w with left := n }) h.2.2⟩

theorem State.SameCh1.silence1 : s.silence1.SameCh1 t.silence1 :=
  ⟨h.1, congrArg (fun c : Square => { c with voice := { c.voice with active := false } }) h.2.1, h.2.2⟩

theorem State.SameCh1.applySweep (cand : Nat) : (s.applySweep cand).SameCh1 (t.applySweep cand) := by
  refine ⟨?_, h.2.1, congrArg (fun w : Sweep => { w with shadow := BitVec.ofNat 11 cand }) h.2.2⟩
  simp only [State.applySweep, h.peek, State.poke_mem, h.1]

theorem State.SameCh1.sweepTick : s.sweepTick.SameCh1 t.sweepTick := by
  unfold State.sweepTick
  dsimp only
  rw [h.peek, h.2.2]
  exact ite_rel (fun _ => h) fun _ => ite_rel
    (fun _ => ite_rel (fun _ => h.setSweepLeft _) fun _ => ite_rel (fun _ => (h.setSweepLeft 0).silence1)
      fun _ => (h.applySweep _).setSweepLeft _)
    fun _ => h.setSweepLeft _

theorem State.SameCh1.apuTick1 : s.apuTick1.SameCh1 t.apuTick1 := by
  have hperiod : t.period1 = s.period1 := by simp only [State.period1, State.freq, h.peek]
  unfold State.apuTick1
  dsimp only
  rw [h.2.1, hperiod]
  exact ite_rel (fun _ => ite_rel (fun _ => State.SameCh1.sweepTick ⟨h.1, rfl, h.2.2⟩) fun _ => ⟨h.1, rfl, h.2.2⟩)
    fun _ => h

end SameCh1

/-- Related states that take a related step any number of times stay related. -/
theorem repeatN_rel {α : Type} {R : α → α → Prop} {f : α → α} (hf : ∀ x y, R x y → R (f x) (f y)) (n : Nat) {x y : α}
    (h : R x y) : R (repeatN f n x) (repeatN f n y) := by
  induction n generalizing x y with
  | zero => exact h
  | succ n ih => exact ih (hf x y h)

/-- The other channels' ticks leave alone what channel 1 reads. -/
theorem State.SameCh1.apuAdvance {s t : State} (h : s.SameCh1 t) (d : Nat) :
    (repeatN State.apuTick1 d s).SameCh1 (t.apuAdvance d) := by
  have h1 := repeatN_rel (fun _ _ => State.SameCh1.apuTick1) d h
  obtain ⟨c2, h2⟩ := (repeatN State.apuTick1 d t).apuTicks2_eq d
  obtain ⟨c3, h3⟩ := (repeatN State.apuTick2 d (repeatN State.apuTick1 d t)).apuTicks3_eq d
  obtain ⟨c4, h4⟩ := (repeatN State.apuTick3 d (repeatN State.apuTick2 d (repeatN State.apuTick1 d t))).apuTicks4_eq d
  rw [State.apuAdvance, h4, h3, h2]
  exact h1

/-- The two states are equal in a channel, and in every byte but those that a sweep writes. -/
def State.SameFor {α : Type} (channel : Apu → α) (s t : State) : Prop :=
  channel t.apu = channel s.apu ∧ ∀ b, b ≠ 0xFF13 → b ≠ 0xFF14 → t.peek b = s.peek b

section SameFor
variable {s t : State}

/-- Channel 2 ticks alike from states equal in it: its period is that of NR23 and NR24. -/
theorem State.SameFor.apuTick2 (h : s.SameFor Apu.ch2 t) : s.apuTick2.SameFor Apu.ch2 t.apuTick2 := by
  obtain ⟨hch, hpeek⟩ := h
  have hperiod : t.period2 = s.period2 := by
    simp (disch := decide) only [State.period2, State.freq, hpeek]
  unfold State.apuTick2
  rw [hch, hperiod]
  exact ite_rel (R := State.SameFor Apu.ch2) (fun _ => ⟨rfl, hpeek⟩) fun _ => ⟨hch, hpeek⟩

/-- Channel 3 ticks alike from states equal in it: its period is that of NR33 and NR34. -/
theorem State.SameFor.apuTick3 (h : s.SameFor Apu.ch3 t) : s.apuTick3.SameFor Apu.ch3 t.apuTick3 := by
  obtain ⟨hch, hpeek⟩ := h
  have hperiod : t.period3 = s.period3 := by
    simp (disch := decide) only [State.period3, State.freq, hpeek]
  unfold State.apuTick3
  dsimp only
  rw [hch, hperiod]
  exact ite_rel (R := State.SameFor Apu.ch3) (fun _ => ⟨rfl, hpeek⟩) fun _ => ⟨hch, hpeek⟩

/-- Channel 4 ticks alike from states equal in it: its period and its width are those of NR43. -/
theorem State.SameFor.apuTick4 (h : s.SameFor Apu.ch4 t) : s.apuTick4.SameFor Apu.ch4 t.apuTick4 := by
  obtain ⟨hch, hpeek⟩ := h
  have hperiod : t.period4 = s.period4 := by simp (disch := decide) only [State.period4, hpeek]
  unfold State.apuTick4
  dsimp only
  rw [hch, hperiod, hpeek 0xFF22 (by decide) (by decide)]
  exact ite_rel (R := State.SameFor Apu.ch4) (fun _ => ⟨rfl, hpeek⟩) fun _ => ⟨hch, hpeek⟩

variable (d : Nat) (hwf : Memory.wf .bus t.mem = true)
include hwf

/-- The ticks of channel 1 leave alone what the other channels read. -/
theorem State.SameFor.apuTicks1 {α : Type} {channel : Apu → α} (h : s.SameFor channel t)
    (hch : ∀ (p : Apu) c w, channel { p with ch1 := c, sweep := w } = channel p) :
    s.SameFor channel (repeatN State.apuTick1 d t) := by
  obtain ⟨m, c, w, he⟩ := t.apuTicks1_eq d
  refine ⟨?_, fun b h3 h4 => ((t.apuTicks1_peek d hwf).2 b h3 h4).trans (h.2 b h3 h4)⟩
  rw [he]
  exact (hch _ c w).trans h.1

theorem State.SameFor.apuAdvance2 (h : s.SameFor Apu.ch2 t) :
    (repeatN State.apuTick2 d s).SameFor Apu.ch2 (t.apuAdvance d) := by
  have h1 := h.apuTicks1 d hwf fun _ _ _ => rfl
  have h2 := repeatN_rel (fun _ _ => State.SameFor.apuTick2) d h1
  obtain ⟨c3, h3⟩ := (repeatN State.apuTick2 d (repeatN State.apuTick1 d t)).apuTicks3_eq d
  obtain ⟨c4, h4⟩ := (repeatN State.apuTick3 d (repeatN State.apuTick2 d (repeatN State.apuTick1 d t))).apuTicks4_eq d
  rw [State.apuAdvance, h4, h3]
  exact h2

theorem State.SameFor.apuAdvance3 (h : s.SameFor Apu.ch3 t) :
    (repeatN State.apuTick3 d s).SameFor Apu.ch3 (t.apuAdvance d) := by
  have h1 := h.apuTicks1 d hwf fun _ _ _ => rfl
  obtain ⟨c2, h2⟩ := (repeatN State.apuTick1 d t).apuTicks2_eq d
  have h3 : (repeatN State.apuTick3 d s).SameFor Apu.ch3
      (repeatN State.apuTick3 d (repeatN State.apuTick2 d (repeatN State.apuTick1 d t))) :=
    repeatN_rel (fun _ _ => State.SameFor.apuTick3) d (h2 ▸ h1)
  obtain ⟨c4, h4⟩ := (repeatN State.apuTick3 d (repeatN State.apuTick2 d (repeatN State.apuTick1 d t))).apuTicks4_eq d
  rw [State.apuAdvance, h4]
  exact h3

theorem State.SameFor.apuAdvance4 (h : s.SameFor Apu.ch4 t) :
    (repeatN State.apuTick4 d s).SameFor Apu.ch4 (t.apuAdvance d) := by
  have h1 := h.apuTicks1 d hwf fun _ _ _ => rfl
  obtain ⟨c2, h2⟩ := (repeatN State.apuTick1 d t).apuTicks2_eq d
  obtain ⟨c3, h3⟩ := (repeatN State.apuTick2 d (repeatN State.apuTick1 d t)).apuTicks3_eq d
  refine repeatN_rel (fun _ _ => State.SameFor.apuTick4) d ?_
  rw [h3, h2]
  exact h1

end SameFor

/-! ## Renders and runs -/

/-- The ticks of the first samples of a run add up (R541). -/
theorem sum_sampleTicks (rate n : Nat) : ((List.range n).map (sampleTicks rate)).sum = Spec.ticksBefore rate n := by
  induction n with
  | zero => simp [Spec.ticksBefore]
  | succ n ih =>
    have hmono := ticksBefore_mono rate (Nat.le_add_right n 1)
    rw [List.range_succ, List.map_append, List.sum_append, ih, List.map_singleton, List.sum_singleton, sampleTicks_eq]
    omega

/-- The carried fraction of a sample replaced (R541). -/
def State.withSampleFrac (s : State) (n : Nat) : State := { s with apu := { s.apu with sampleFrac := n } }

/-- A render carries the new fraction and takes its samples (R541). -/
theorem State.render_eq (s : State) (ms : Nat) : s.render ms =
    renderSamples ((s.apu.sampleFrac + ms * s.params.sampleRate) / 1000)
      (s.withSampleFrac ((s.apu.sampleFrac + ms * s.params.sampleRate) % 1000)) := rfl

/-- Over the samples of a render each channel is as after its own ticks alone, those between the sample counts before and
after (R501, R541); the carried fraction is read by none. -/
theorem State.renderSamples_channels (s : State) (frac n : Nat) (hwf : Memory.wf .bus s.mem = true) :
    let d := Spec.ticksBefore s.params.sampleRate (s.apu.samplesDone + n) -
      Spec.ticksBefore s.params.sampleRate s.apu.samplesDone
    let t := (renderSamples n (s.withSampleFrac frac)).1
    (repeatN State.apuTick1 d s).SameCh1 t ∧ (repeatN State.apuTick2 d s).SameFor Apu.ch2 t ∧
      (repeatN State.apuTick3 d s).SameFor Apu.ch3 t ∧ (repeatN State.apuTick4 d s).SameFor Apu.ch4 t :=
  ⟨renderSamples_follows (R := State.SameCh1) (fun _ _ d _ h => h.apuAdvance d) (fun _ _ h => h) n
      (t := s.withSampleFrac frac) hwf ⟨rfl, rfl, rfl⟩,
    renderSamples_follows (R := State.SameFor Apu.ch2) (fun _ _ d hwf h => h.apuAdvance2 d hwf) (fun _ _ h => h) n
      (t := s.withSampleFrac frac) hwf ⟨rfl, fun _ _ _ => rfl⟩,
    renderSamples_follows (R := State.SameFor Apu.ch3) (fun _ _ d hwf h => h.apuAdvance3 d hwf) (fun _ _ h => h) n
      (t := s.withSampleFrac frac) hwf ⟨rfl, fun _ _ _ => rfl⟩,
    renderSamples_follows (R := State.SameFor Apu.ch4) (fun _ _ d hwf h => h.apuAdvance4 d hwf) (fun _ _ h => h) n
      (t := s.withSampleFrac frac) hwf ⟨rfl, fun _ _ _ => rfl⟩⟩

/-- Settles O54: a render is its samples' loop, a run puts each reply before the rest's, and the ticks telescope. -/
theorem renderedSamples : Obligations.RenderedSamples := by
  refine ⟨fun s ms => ?_, fun op ops s t hs ht => ?_, fun rate n _ => sum_sampleTicks rate n⟩
  · intro total t
    have hrender : s.render ms = renderSamples (total / 1000) (s.withSampleFrac (total % 1000)) := s.render_eq ms
    have hstate : t = (renderSamples (total / 1000) (s.withSampleFrac (total % 1000))).1 := congrArg Prod.fst hrender
    rw [hrender, hstate]
    generalize total / 1000 = n
    generalize total % 1000 = frac
    obtain ⟨m, c1, w, c2, c3, c4, he⟩ := renderSamples_eq n (s.withSampleFrac frac)
    refine ⟨renderSamples_length _ _, by rw [he]; rfl, by rw [he]; rfl, ⟨_, _, he⟩, fun hmem => ?_,
      renderSamples_eq_loop _ _, fun hmem => ?_⟩
    · exact (renderSamples_sweepWrites n (s.withSampleFrac frac) hmem.1).2
    · have hdone : (renderSamples n (s.withSampleFrac frac)).1.apu.samplesDone = s.apu.samplesDone + n := by
        rw [he]
        rfl
      rw [hdone]
      obtain ⟨⟨hm, h1, hw⟩, ⟨h2, -⟩, ⟨h3, -⟩, ⟨h4, -⟩⟩ := s.renderSamples_channels frac n hmem.1
      exact ⟨h1, hw, hm, h2, h3, h4⟩
  · rw [drive_cons s op ops t hs ht, RunResult.after_samples]
    cases op <;> rfl

end Sys2Proof.Machine

/-! Proofs of the family 70_reset_and_hazards: every host operation, and every run of them, keeps the invariants. -/

namespace Sys2Proof.Machine

/-! ## The audio counters of a trigger and of a tick -/

/-- The counters of an active square channel have not run out. -/
def Square.Live (c : Square) : Prop := c.voice.live ∧ c.env.liveFor c.voice

/-- The counters of an active noise channel have not run out. -/
def Noise.Live (c : Noise) : Prop := c.voice.live ∧ c.env.liveFor c.voice

/-- The audio counters, channel by channel (R40, R510, R515, R516, R541). -/
structure Apu.Form (p : Apu) : Prop where
  ch1  : p.ch1.Live
  ch2  : p.ch2.Live
  ch3  : p.ch3.voice.live
  ch4  : p.ch4.Live
  frac : p.sampleFrac < 1000

theorem State.apuForm_iff (s : State) : s.apuForm ↔ s.apu.Form :=
  ⟨fun ⟨v1, v2, v3, v4, e1, e2, e4, frac⟩ => ⟨⟨v1, e1⟩, ⟨v2, e2⟩, v3, ⟨v4, e4⟩, frac⟩,
    fun ⟨⟨v1, e1⟩, ⟨v2, e2⟩, v3, ⟨v4, e4⟩, frac⟩ => ⟨v1, v2, v3, v4, e1, e2, e4, frac⟩⟩

theorem squarePeriod_pos (f : BitVec 11) : 0 < squarePeriod f :=
  Nat.mul_pos (Nat.sub_pos_of_lt f.isLt) (by decide)

theorem wavePeriod_pos (f : BitVec 11) : 0 < wavePeriod f :=
  Nat.mul_pos (Nat.sub_pos_of_lt f.isLt) (by decide)

theorem noisePeriod_pos (v : Byte) : 0 < noisePeriod v := by
  have hlt := Nat.mod_lt v.toNat (show 0 < 8 by decide)
  rw [noisePeriod_eq]
  refine Nat.mul_pos ?_ (Nat.two_pow_pos _)
  generalize v.toNat % 8 = k at hlt ⊢
  interval_cases k <;> decide

theorem lengthUnits_pos (v : Byte) : 0 < lengthUnits v := by
  rw [lengthUnits_eq]
  omega

/-- A trigger starts a voice with counters to run (R504). -/
theorem Voice.start_live {period units : Nat} (hperiod : 0 < period) (hunits : 0 < units) (ctl : Byte) :
    (Voice.start period ctl units).live :=
  fun _ => ⟨hperiod, fun _ => Nat.mul_pos hunits (by decide)⟩

/-- The countdown of a moving envelope reloads to a positive number (R516). -/
theorem envelope_reload_pos {period : BitVec 3} (h : period ≠ 0) : 0 < period.toNat * 65536 :=
  Nat.mul_pos (Nat.pos_of_ne_zero fun h0 => h (BitVec.eq_of_toNat_eq h0)) (by decide)

/-- A trigger latches an envelope that does not move or has a countdown to run (R505). -/
theorem Envelope.latch_liveFor (v : Voice) (nrk2 : Byte) : (Envelope.latch nrk2).liveFor v := fun _ hper => by
  have hleft : (Envelope.latch nrk2).left = (Envelope.latch nrk2).period.toNat * 65536 := by
    simp [Envelope.latch, field, BitVec.extractLsb'_toNat]
  rw [hleft]
  exact envelope_reload_pos hper

/-- A bus write triggers a channel or leaves the audio counters alone (R504). -/
theorem State.memWrite_apuForm (s : State) (a : Word) (v : Byte) (h : s.apu.Form) : (s.memWrite a v).apu.Form := by
  refine s.memWrite_apu_induct Apu.Form (fun t ht => ?_) (fun t ht => ?_) (fun t ht => ?_) (fun t ht => ?_) a v h
  · exact { ht with ch1 := ⟨Voice.start_live (squarePeriod_pos _) (lengthUnits_pos _) _, Envelope.latch_liveFor _ _⟩ }
  · exact { ht with ch2 := ⟨Voice.start_live (squarePeriod_pos _) (lengthUnits_pos _) _, Envelope.latch_liveFor _ _⟩ }
  · exact { ht with ch3 := Voice.start_live (wavePeriod_pos _) (Nat.sub_pos_of_lt (t.peek 0xFF1B).isLt) _ }
  · exact { ht with ch4 := ⟨Voice.start_live (noisePeriod_pos _) (lengthUnits_pos _) _, Envelope.latch_liveFor _ _⟩ }

/-- In a step only a bus write reaches the audio counters. -/
theorem Apu.form_stepClosed : StepClosed fun s => s.apu.Form where
  cpu _ _ _ _ _ _ h := h
  memWrite t a v h := t.memWrite_apuForm a v h
  timers _ _ _ _ h := h
  ppu _ _ _ h := h
  counted _ _ h := h
  stop _ h := h
  fatal _ _ h := h

section TickLive
variable {v : Voice} (hlive : v.live) (ha : v.active = true)
include hlive ha

/-- A tick reloads the timer at its end, and ends the channel with its length (R510). -/
theorem Voice.live.tick {period : Nat} (hperiod : 0 < period) : ((v.countTimer period).countLength).live := by
  obtain ⟨htimer, hlen⟩ := hlive ha
  rw [hlive.tick_eq ha]
  intro hsounds
  refine ⟨?_, fun hb => ?_⟩
  · show 0 < if v.timer = 1 then period else v.timer - 1
    split <;> omega
  · have hb : v.bounded = true := hb
    have hne : v.lenLeft ≠ 1 := by
      have hsounds : (!(v.bounded && decide (v.lenLeft = 1))) = true := hsounds
      simpa [hb] using hsounds
    have hlen := hlen hb
    show 0 < if v.bounded = true then v.lenLeft - 1 else v.lenLeft
    rw [if_pos hb]
    omega

end TickLive

/-- An envelope that has not run out reloads its countdown at its end (R516). -/
theorem Envelope.liveFor.tick {v : Voice} {e : Envelope} (he : e.liveFor v) (ha : v.active = true) (w : Voice) :
    e.tick.liveFor w := by
  intro _ hper
  by_cases h0 : e.period = 0
  · rw [Envelope.tick_of_zero h0] at hper
    exact absurd h0 hper
  · have hleft := he ha h0
    rw [Envelope.tick_of_ne h0]
    split
    · exact envelope_reload_pos h0
    · show 0 < e.left - 1
      omega

/-- A silent channel's counters have nothing to run out of. -/
theorem Square.live_of_off {c : Square} (h : c.voice.active = false) : c.Live :=
  ⟨fun ha => absurd ha (by simp [h]), fun ha => absurd ha (by simp [h])⟩

/-- A square channel's tick keeps its counters (R510). -/
theorem Square.Live.tick {c : Square} (h : c.Live) (ha : c.voice.active = true) {period : Nat} (hperiod : 0 < period) :
    (c.tick period).Live := by
  obtain ⟨hvoice, henv⟩ := h
  have hvoice' := hvoice.tick ha hperiod
  unfold Square.tick
  dsimp only
  split
  · exact ⟨hvoice', henv.tick ha _⟩
  · next hoff => exact ⟨hvoice', fun ha' => absurd ha' hoff⟩

section TickForm
variable {s : State} (h : s.apu.Form)
include h

theorem Apu.Form.apuTick1 : s.apuTick1.apu.Form := by
  have hlive : s.apuTick1.apu.ch1.Live := by
    cases ha : s.apu.ch1.voice.active with
    | false => rw [State.apuTick1_of_off ha]; exact h.ch1
    | true =>
      obtain hch | hoff := State.apuTick1_ch1 ha
      · rw [hch]; exact h.ch1.tick ha (squarePeriod_pos _)
      · exact Square.live_of_off hoff
  obtain ⟨m, c, w, he⟩ := s.apuTick1_eq
  rw [he] at hlive ⊢
  exact { h with ch1 := hlive }

theorem Apu.Form.apuTick2 : s.apuTick2.apu.Form := by
  cases ha : s.apu.ch2.voice.active with
  | false => rwa [State.apuTick2_of_off ha]
  | true =>
    rw [State.apuTick2_of_on ha]
    exact { h with ch2 := h.ch2.tick ha (squarePeriod_pos _) }

theorem Apu.Form.apuTick3 : s.apuTick3.apu.Form := by
  cases ha : s.apu.ch3.voice.active with
  | false => rwa [State.apuTick3_of_off ha]
  | true =>
    rw [State.apuTick3_of_on ha]
    exact { h with ch3 := h.ch3.tick ha (wavePeriod_pos _) }

theorem Apu.Form.apuTick4 : s.apuTick4.apu.Form := by
  cases ha : s.apu.ch4.voice.active with
  | false => rwa [State.apuTick4_of_off ha]
  | true =>
    obtain ⟨hvoice, henv⟩ := h.ch4
    rw [State.apuTick4_of_on ha]
    refine { h with ch4 := ⟨hvoice.tick ha (noisePeriod_pos _), ?_⟩ }
    dsimp only
    split
    · exact henv.tick ha _
    · next hoff => exact fun ha' => absurd ha' hoff

theorem Apu.Form.apuAdvance (d : Nat) : (s.apuAdvance d).apu.Form :=
  repeatN_induct (fun t : State => t.apu.Form) _ (fun _ => Apu.Form.apuTick4) d _ <|
    repeatN_induct (fun t : State => t.apu.Form) _ (fun _ => Apu.Form.apuTick3) d _ <|
      repeatN_induct (fun t : State => t.apu.Form) _ (fun _ => Apu.Form.apuTick2) d _ <|
        repeatN_induct (fun t : State => t.apu.Form) _ (fun _ => Apu.Form.apuTick1) d _ h

theorem Apu.Form.renderSamples (n : Nat) : (renderSamples n s).1.apu.Form := by
  induction n generalizing s with
  | zero => exact h
  | succ n ih =>
    obtain ⟨d, -, hd⟩ := renderSamples_succ n s
    rw [hd]
    have hnext := h.apuAdvance d
    exact ih (s := (s.apuAdvance d).countSample) { hnext with }

end TickForm

/-! ## The host's operations -/

/-- A machine step keeps every invariant. -/
theorem State.Inv.step {s t : State} (h : s.Inv) (hst : step s = .next t) : t.Inv where
  memory := step_memoryForm hst h.memory
  echo := (State.echoForm_memoryClosed.of_step hst ⟨h.memory.1, h.echo⟩).2
  storedBits := (State.storedBitsForm_memoryClosed.of_step hst ⟨h.memory.1, h.storedBits⟩).2
  flags := step_flagForm hst h.flags
  control := step_controlForm hst h.control
  timer := (step_countForm hst ⟨h.memory.1, h.timer⟩).2
  bank := State.bankForm_stepClosed.of_step hst h.bank
  ppu := step_ppuForm hst h.ppu
  fatal := step_fatalForm hst
  apu := t.apuForm_iff.mpr (Apu.form_stepClosed.of_step hst (s.apuForm_iff.mp h.apu))

/-- The button states are in no invariant (R41). -/
theorem State.Inv.setButtons {s : State} (h : s.Inv) (b : Buttons) : (s.setButtons b).Inv :=
  { h with }

/-- The frame flag is in no invariant (R459). -/
theorem State.Inv.consumeFrame {s : State} (h : s.Inv) : s.consumeFrame.Inv :=
  { h with }

/-- Raising a source stores to IF, which no invariant speaks of but the canonical form (R396). -/
theorem State.Inv.raiseIrq {s : State} (h : s.Inv) (k : Irq) : (s.raiseIrq k).Inv := by
  have hwf := s.raiseIrq_mem_wf k h.memory.1
  have hecho := State.echoForm_memoryClosed.raiseIrq k ⟨h.memory.1, h.echo⟩
  have hbits := State.storedBitsForm_memoryClosed.raiseIrq k ⟨h.memory.1, h.storedBits⟩
  have htimer := State.countForm_raiseIrq k ⟨h.memory.1, h.timer⟩
  obtain ⟨m, hm⟩ := s.raiseIrq_eq k
  rw [hm] at hwf hecho hbits htimer ⊢
  exact { h with memory := ⟨hwf, h.memory.2⟩, echo := hecho.2, storedBits := hbits.2, timer := htimer.2 }

/-- A key press ends STOP and raises the joypad source (R437). -/
theorem State.Inv.keyPress {s : State} (h : s.Inv) : s.keyPress.Inv := by
  have hrun : State.Inv { s with stopped := false } := { h with control := ⟨h.control.1, nofun⟩ }
  exact hrun.raiseIrq .joypad

/-- A render moves the audio counters, and stores to NR13 and NR14 alone (R541). -/
theorem State.Inv.render {s : State} (h : s.Inv) (ms : Nat) : (s.render ms).1.Inv := by
  have hfrac := Nat.mod_lt (s.apu.sampleFrac + ms * s.params.sampleRate) (show 0 < 1000 by decide)
  rw [s.render_eq]
  generalize (s.apu.sampleFrac + ms * s.params.sampleRate) / 1000 = n
  generalize (s.apu.sampleFrac + ms * s.params.sampleRate) % 1000 = frac at hfrac ⊢
  have hform : (s.withSampleFrac frac).apu.Form := { s.apuForm_iff.mp h.apu with frac := hfrac }
  have happu := hform.renderSamples n
  obtain ⟨hwf, hread⟩ := renderSamples_sweepWrites n (s.withSampleFrac frac) h.memory.1
  obtain ⟨m, c1, w, c2, c3, c4, he⟩ := renderSamples_eq n (s.withSampleFrac frac)
  rw [he] at happu hwf hread ⊢
  have hpeek : ∀ b, b ≠ 0xFF13 → b ≠ 0xFF14 → Memory.read .bus m b = s.peek b := hread
  refine { h with
    memory := ⟨hwf, h.memory.2⟩
    echo := fun a hlow hhigh =>
      ((hpeek a (by omega) (by omega)).trans (h.echo a hlow hhigh)).trans (hpeek _ (by omega) (by omega)).symm
    storedBits := ?_
    timer := ⟨h.timer.1, h.timer.2.trans_eq (congrArg tacPeriod (hpeek _ (by decide) (by decide)).symm)⟩
    apu := (State.apuForm_iff _).mpr happu }
  exact ⟨(congrArg (· &&& 0xCF) (hpeek 0xFF00 (by decide) (by decide))).trans h.storedBits.1,
    (congrArg (· &&& 0x07) (hpeek 0xFF41 (by decide) (by decide))).trans h.storedBits.2⟩

/-- Every operation keeps every invariant. -/
theorem State.Inv.apply {s t : State} (h : s.Inv) (op : HostOp) (hop : ∀ p, op = .coldBoot p → p.wf = true)
    (ht : op.apply s = .next t) : t.Inv := by
  cases op with
  | machineStep => exact h.step ht
  | coldBoot p => cases ht; exact State.coldBoot_inv (hop p rfl)
  | setButtons b => cases ht; exact h.setButtons b
  | keyPress => cases ht; exact h.keyPress
  | render ms => cases ht; exact h.render ms
  | consumeFrame => cases ht; exact h.consumeFrame

/-- From a state without a fatal record every operation answers a next state (R578). -/
theorem HostOp.apply_completes {s : State} (hs : s.fatal = none) (op : HostOp) : ∃ t, op.apply s = .next t := by
  cases op with
  | machineStep => exact step_completes hs
  | _ => exact ⟨_, rfl⟩

/-! ## Runs -/

/-- A run ends with the fatal record that its end state holds, or because the host stopped (R577). -/
def RunResult.EndsWell (r : RunResult) : Prop :=
  r.state.Inv ∧ (r.ending = .hostStopped ↔ r.state.fatal = none) ∧ ∀ f, r.ending = .fatal f ↔ r.state.fatal = some f

theorem RunResult.endAt_endsWell {s : State} (h : s.Inv) : (RunResult.endAt s).EndsWell := by
  refine ⟨h, ?_⟩
  rw [RunResult.endAt_ending, RunResult.endAt_state]
  cases s.fatal <;> simp

/-- A run of legal operations ends well. -/
theorem drive_endsWell (ops : List HostOp) {s : State} (h : s.Inv) (hops : ∀ p, .coldBoot p ∈ ops → p.wf = true) :
    (drive ops s).EndsWell := by
  induction ops generalizing s with
  | nil => exact RunResult.endAt_endsWell h
  | cons op rest ih =>
    cases hf : s.fatal with
    | some r => exact drive_fatal s (op :: rest) (by rw [hf]; rfl) ▸ RunResult.endAt_endsWell h
    | none =>
      obtain ⟨t, ht⟩ := HostOp.apply_completes hf op
      rw [drive_cons s op rest t hf ht]
      have hop : ∀ p, op = .coldBoot p → p.wf = true := fun p hp => hops p (hp ▸ List.mem_cons_self)
      exact ih (h.apply op hop ht) fun p hp => hops p (List.mem_cons_of_mem op hp)

/-- Settles O60: each operation keeps the invariants, and a run takes one after another until one leaves a record. -/
theorem hostOperationsKeepTheInvariants : Obligations.HostOperationsKeepTheInvariants :=
  ⟨fun op _ _ h hop ht => h.apply op hop ht, fun ops _ h hops => drive_endsWell ops h hops⟩

end Sys2Proof.Machine
